-- ==== Sys2Proof/Word.lean ====
section
/-! DEFINITION. The words of the MT-2406: the byte of the panel link and the register widths the manual names. -/

namespace Sys2Proof

/-- One character of the panel link (R75) and the unit of every frame and record layout (R157, R160 to R163). -/
abbrev Byte := BitVec 8

/-- The frame check (R77). -/
abbrev Word16 := BitVec 16

/-- Cabinet time, a 32-bit count that wraps (R4). -/
abbrev Word32 := BitVec 32

/-- One conversion of a sensor input, 0 to 4095 (R26). -/
abbrev RawCode := BitVec 12

/-- One reading of the 6 by 8 key matrix: bit `p` set means position `p` reads closed (R125). -/
abbrev Matrix := BitVec 48

end Sys2Proof
end

