-- ==== Sys2Proof/Syntax.lean ====
section
/-! DEFINITION. The commands of the MT-2406: one constructor per row of spec/opcode_table.json.

A row is one whole step of the part (spec/95_what_each_step_holds.md): an edge or a byte at a pin, a sample, the running out of a
timer, or a command frame. Its operands are what the outside world supplies with it. -/

namespace Sys2Proof

/-- The two link ports (R75): C toward the panel computer, B toward the bezel board. -/
inductive PortId where
  | c
  | b
  deriving DecidableEq, Repr

/-- The three temperature sensors (R26). -/
inductive SensorId where
  | air
  | display
  | board
  deriving DecidableEq, Repr

/-- The two heater channels (chapter 3). -/
inductive HeaterId where
  | h0
  | h1
  deriving DecidableEq, Repr

/-- The three channels (R48, R158). -/
inductive ChannelId where
  | h0
  | h1
  | fan
  deriving DecidableEq, Repr

/-- The three comparators read from a channel's sense inputs (chapter 3). The fan has the trip comparator alone. -/
inductive Comparator where
  | trip
  | openLoad
  | sense
  deriving DecidableEq, Repr

/-- One frame of the panel link as it stands on the wire (R157): the check is the one carried, right or wrong. -/
structure Frame where
  dst : Byte
  src : Byte
  cls : Byte
  payload : List Byte
  check : Word16
  deriving DecidableEq, Repr

/-- A low period of a port's RX (R80), by the instant of the part's clock at which RX fell: the part sees that edge, and no row of the table
brings it before the BREAK. -/
structure LowPeriod where
  port : PortId
  fell : Nat
  deriving DecidableEq, Repr

/-- The commands, in the order of spec/opcode_table.json. -/
inductive Instr where
  /-- R6. The supply rises into its range; `rateHigh` is the RATE strap as the reset completes (R75). -/
  | powerOnReset (rateHigh : Bool)
  /-- R9. -/
  | warmUpLimitExpiry
  /-- R12, R14. -/
  | pwrgoodRise
  /-- R12, R14. -/
  | pwrgoodFall
  /-- R12. -/
  | pwrgoodStabilityComplete
  /-- R12. -/
  | pwrgoodWaitExpiry
  /-- R14, R15. -/
  | supplyLossFilterExpiry
  /-- R17. -/
  | resetPulseEnd
  /-- R18. -/
  | offTimeEnd
  /-- R25. -/
  | overlayEnd
  /-- R26. The three raw codes of one sample. -/
  | sensorSample (air display board : RawCode)
  /-- R30. The fourth faulty sample in a row of one sensor. -/
  | sensorFailed (sensor : SensorId)
  /-- R31. The twentieth valid sample in a row of a FAILED sensor, with its raw code. -/
  | sensorRecovered (sensor : SensorId) (code : RawCode)
  /-- R36. -/
  | soakComplete
  /-- R20. -/
  | overheatDwellExpiry
  /-- R56. -/
  | coolingDegradedSet
  /-- R56. -/
  | coolingDegradedClear
  /-- R60. -/
  | budgetTimerExpiry
  /-- R66. -/
  | budgetLimited
  /-- R43. -/
  | heaterOnTimeEnd (heater : HeaterId)
  /-- R47, R49, R50. `reports` says whether the comparator now reports its condition. -/
  | comparatorChange (channel : ChannelId) (cmp : Comparator) (reports : Bool)
  /-- R47. -/
  | overcurrentTrip (channel : ChannelId)
  /-- R47. -/
  | tripAgeOut (channel : ChannelId)
  /-- R49. -/
  | openLoadDetected (heater : HeaterId)
  /-- R49. -/
  | openLoadCleared (heater : HeaterId)
  /-- R50. -/
  | shortToSupplyDetected (heater : HeaterId)
  /-- R50. -/
  | shortToSupplyCleared (heater : HeaterId)
  /-- R45. -/
  | tachPulse
  /-- R45. -/
  | tachTimeout
  /-- R46. -/
  | stallDetected
  /-- R54. -/
  | heatInhAssert
  /-- R55. -/
  | heatInhRise
  /-- R55. -/
  | heatInhRelease
  /-- R79, R82. A whole frame, whose second check byte has just been taken. -/
  | frameReceived (port : PortId) (frame : Frame)
  /-- R79. The length field taken after a frame's four header bytes. -/
  | lengthAbort (port : PortId) (length : Byte)
  /-- R78. -/
  | frameGapTimeout (port : PortId)
  /-- R80. RX has been low since the fall that began the low period. -/
  | rxBreak (low : LowPeriod)
  /-- R76. -/
  | transmitStart (port : PortId)
  /-- R76. -/
  | transmitComplete (port : PortId)
  /-- R87. -/
  | rdyInChange (port : PortId) (asserted : Bool)
  /-- R87, R88. -/
  | portStalled (port : PortId)
  /-- R113. -/
  | deadlineExpiry
  /-- R115. -/
  | suspensionExpiry
  /-- R116. -/
  | armExpiry
  /-- R125. The matrix as this pass reads it. -/
  | scanPass (closed : Matrix)
  /-- R127. -/
  | press (position : Nat)
  /-- R128. -/
  | release (position : Nat)
  /-- R130. -/
  | stuck (position : Nat)
  /-- R130. -/
  | stuckClear (position : Nat)
  /-- R131. -/
  | keyRepeat (position : Nat)
  /-- R136. -/
  | chordFire (chord : Nat)
  /-- R140. -/
  | keyDelivery
  /-- R150. -/
  | noticeSend
  /-- R155. Whether the read-back matches, and, where the shadow is written back, whether that one matches. -/
  | programmingEnd (readBack restoreReadBack : Bool)
  /-- R146. -/
  | getStatus (payload : List Byte)
  /-- R151. -/
  | getCause (payload : List Byte)
  /-- R149. -/
  | setCauseEnables (payload : List Byte)
  /-- R146. -/
  | setTime (payload : List Byte)
  /-- R147. -/
  | getHistory (payload : List Byte)
  /-- R109. -/
  | pulse (payload : List Byte)
  /-- R148. -/
  | getLinkCounters (payload : List Byte)
  /-- R148. -/
  | clearCounters (payload : List Byte)
  /-- R103. -/
  | setPassEntry (payload : List Byte)
  /-- R106. -/
  | getPassEntry (payload : List Byte)
  /-- R102. -/
  | setAnswer (payload : List Byte)
  /-- R102. -/
  | getAnswer (payload : List Byte)
  /-- R95. -/
  | setDefaultActions (payload : List Byte)
  /-- R145. -/
  | setThermal (payload : List Byte)
  /-- R145. -/
  | getThermal (payload : List Byte)
  /-- R59. -/
  | setBudget (payload : List Byte)
  /-- R52. -/
  | getChannelDiag (payload : List Byte)
  /-- R48. -/
  | clearChannelLock (payload : List Byte)
  /-- R141. -/
  | setKeypad (payload : List Byte)
  /-- R120. -/
  | setWatchdog (payload : List Byte)
  /-- R114. -/
  | suspendWatchdog (payload : List Byte)
  /-- R115. -/
  | resumeWatchdog (payload : List Byte)
  /-- R116. -/
  | armRestart (payload : List Byte)
  /-- R117. -/
  | restart (payload : List Byte)
  /-- R133. -/
  | setKeymap (payload : List Byte)
  /-- R134. -/
  | setChord (payload : List Byte)
  /-- R154. -/
  | storeSettings (payload : List Byte)
  /-- R144. A command class that names no command. -/
  | unknownCommand (cls : Byte) (payload : List Byte)
  /-- R78. One character; `stopHigh` is clear when its stop bit is sampled low (R75). -/
  | byteReceived (port : PortId) (byte : Byte) (stopHigh : Bool)
  /-- R1, R155. -/
  | brownOut
  deriving DecidableEq, Repr

end Sys2Proof
end

