-- ==== Sys2Proof/Decode.lean ====
section
/-! DEFINITION. The words of the opcode table: spec/opcode_table.json gives no row any bits, so no word spells a command.

The byte layouts of the command frames are the receiver's and the command processor's (Machine/Receiver.lean, Machine/Commands.lean). -/

namespace Sys2Proof

/-- The command that a word of the table's bits spells: none, since every row's `fields` is empty (spec/98_reader.md:
`n_rows_with_fields` 0). -/
def decodeTableWord (_nbits _w : Nat) : Option Instr := none

end Sys2Proof
end

