-- ==== Sys2Proof/Config.lean ====
section
/-! DEFINITION. What the manual leaves open, as constants with no body: a claim holds whatever they are.

Each is named in an assumption-log entry. -/

namespace Sys2Proof.Config

/-- The place at which the `i`-th of several events that fall due at one instant is put among the others, at the
`n`-th draw. The manual lets them be taken in either order (R2, R61, R83, R84, R92). DESIGN CHOICE, log entry 3. -/
opaque dueOrder : Nat → Nat → Nat

/-- Whether the read-back after programming matches, at the `n`-th draw: a fact about the non-volatile area that
the manual does not fix (R155). DESIGN CHOICE, log entry 7. -/
opaque readBackMatches : Nat → Bool

/-- The format number of this part's image layout (R152 names it and gives no value). DESIGN CHOICE, log entry 8. -/
opaque imageFormat : Word16

/-- The length word of this part's image layout (R152 names it and gives no value). DESIGN CHOICE, log entry 8. -/
opaque imageLength : Word16

/-- How many of the chord firings that wait are taken within the row that makes one, at the `n`-th draw; the rest are taken
after what else falls at that instant. The manual lets either come first (R10, R23). DESIGN CHOICE, log entry 32. -/
opaque firingsTaken : Nat → Nat

/-- The four last-hit bytes of a GET_PASS_ENTRY reply whose present flag is clear (R160 gives them no value).
DESIGN CHOICE, log entry 9. -/
opaque absentLastHit : Word32

end Sys2Proof.Config
end

