-- ==== Sys2Proof/Machine/State.lean ====
section
/-! DEFINITION. The state of the MT-2406, block by block as spec/00_scope.md lists them, and the machine right after power-on reset.

Times: an instant is a count of microseconds since the power-on reset completed, and a timer is the instant it
started at or the instant it runs out at. Temperatures are in quarter degrees Celsius, duties in sixty-fourths, power in budget units. -/

namespace Sys2Proof.Machine

/-! ## Names -/

/-- The eight cabinet phases (chapter 1.1), in code order. -/
inductive Phase where
  | preheat
  | powerOn
  | boot
  | run
  | restart
  | powerCycle
  | cooldown
  | lockout
  deriving DecidableEq, Repr

/-- The three states of a sensor (R29 to R31). -/
inductive SensorState where
  | starting
  | valid
  | failed
  deriving DecidableEq, Repr

/-- The four states of a channel (R42). -/
inductive ChannelState where
  | off
  | active
  | inhibited
  | lockedOff
  deriving DecidableEq, Repr

/-- The eight restart causes (chapter 7.5). -/
inductive RestartCause where
  | bootTimeout
  | heartbeatTimeout
  | supplyFail
  | supplyLoss
  | commandedReset
  | commandedCycle
  | chordRestart
  | overheat
  deriving DecidableEq, Repr

/-- The four restart actions (R16). -/
inductive RestartAction where
  | reset
  | powerCycle
  | cooldown
  | lockout
  deriving DecidableEq, Repr

/-- The thirteen causes the part reports, in priority order (R149). -/
inductive Cause where
  | overheatWarn
  | channelFault
  | fanStall
  | sensorFault
  | coolingDegraded
  | restartRecorded
  | keyLoss
  | linkFault
  | budgetLimited
  | suspendExpired
  | storeDone
  | storeFailed
  | settingsDefaulted
  deriving DecidableEq, Repr

/-- The warm-up policy (R9). -/
inductive WarmUpPolicy where
  | bootAnyway
  | keepHeating
  deriving DecidableEq, Repr

/-- The direction of a pass entry (R91). -/
inductive Direction where
  | down
  | up
  deriving DecidableEq, Repr

/-- The five actions of a pass entry (R91). -/
inductive PassAction where
  | forward
  | drop
  | heartbeat
  | clampLevel
  | answer
  deriving DecidableEq, Repr

/-- A default action (R95). -/
inductive DefaultAction where
  | forward
  | drop
  deriving DecidableEq, Repr

/-- The four chord actions (chapter 8.8). -/
inductive ChordAction where
  | requestRestart
  | skipWarmup
  | clearLockout
  | report
  deriving DecidableEq, Repr

/-- A chord's state (R135). -/
inductive ChordState where
  | armed
  | holding
  | spent
  deriving DecidableEq, Repr

/-- A key's debounce state (R127, R128, R130). -/
inductive KeyState where
  | up
  | pressPending
  | down
  | releasePending
  | stuck
  deriving DecidableEq, Repr

/-- The kinds of key event record (R137). -/
inductive KeyKind where
  | press
  | release
  | repeated
  | chord
  | snapshot
  deriving DecidableEq, Repr

/-- The state of the supervisor's deadline (R112). -/
inductive DeadlineState where
  | stopped
  | bootWindow
  | heartbeat
  | suspended
  deriving DecidableEq, Repr

/-- The warm-up limit timer's three states (R7); RUNNING carries the instant it runs out at. -/
inductive WarmUpTimer where
  | stopped
  | running (expiry : Nat)
  | expired
  deriving DecidableEq, Repr

/-- The overlay shown on LED after a chord firing (R25). -/
inductive Overlay where
  | accepted
  | refused
  deriving DecidableEq, Repr

/-- One move of a line made at a phase entry (R1, R11). -/
inductive LineMove where
  | dutiesLowered
  | pwrEnOn
  | pwrEnOff
  | pcRstAsserted
  | pcRstReleased
  deriving DecidableEq, Repr

/-- The mark of a frame in the downstream queue (chapter 4.5): a computer's level frame queued through the backlight record,
a level frame of the part's own, or any other frame. -/
inductive LevelMark where
  | unmarked
  | computer
  | own
  deriving DecidableEq, Repr

/-- The ranks of the upstream queue (R84), 0 to 3. -/
inductive Rank where
  | reply
  | notice
  | key
  | forwarded
  deriving DecidableEq, Repr

/-! ## Stored settings (R152) -/

/-- The definition of one pass entry (R91, R163). A parameter that does not belong to the entry's action is held as written. -/
structure PassDef where
  active : Bool
  direction : Direction
  action : PassAction
  nodeAny : Bool
  node : Byte
  clsValue : Byte
  clsMask : Byte
  selectorPresent : Bool
  selector : Byte
  phases : Byte
  tokenOffset : Byte
  forward : Bool
  levelOffset : Byte
  answerIndex : Byte
  deriving DecidableEq, Repr

/-- One answer record (R101, R163); an offset of FFh means the live field is absent. -/
structure Answer where
  cls : Byte
  phaseOffset : Byte
  boardOffset : Byte
  soakOffset : Byte
  template : List Byte
  deriving DecidableEq, Repr

/-- One keymap entry (chapter 8.7). -/
structure KeymapEntry where
  code : Byte
  repeats : Bool
  deliver : Bool
  deriving DecidableEq, Repr

/-- One chord definition (chapter 8.8, R160). Members beyond the member count are held as written (R159). -/
structure ChordDef where
  count : Nat
  m0 : Byte
  m1 : Byte
  m2 : Byte
  holdMs : Nat
  action : ChordAction
  phases : Byte
  deriving DecidableEq, Repr

/-- The keypad parameters (R141). -/
structure KeypadParams where
  tPress : Nat
  tRel : Nat
  tCold : Int
  kCold : Nat
  tStuck : Nat
  repeatDelay : Nat
  repeatPeriod : Nat
  deriving DecidableEq, Repr

/-- SET_THERMAL group 1 (R57, R145). A mask has OVERCURRENT as bit 0; OPEN_LOAD and SHORT_TO_SUPPLY as bits 1 and 2 on a heater,
STALL as bit 1 on the fan. -/
structure ThermalChannels where
  h0Run : Int
  h0Preheat : Int
  h1Run : Int
  h1Preheat : Int
  pb0 : Int
  pb1 : Int
  tOn : Int
  tFull : Int
  mask0 : BitVec 3
  mask1 : BitVec 3
  maskF : BitVec 3
  deriving DecidableEq, Repr

/-- SET_THERMAL group 2 (R38, R145). -/
structure ThermalSensing where
  trimAir : Int
  trimDisplay : Int
  trimBoard : Int
  gBoard : Int
  gDisp : Int
  tSoak : Nat
  warmUpLimit : Nat
  policy : WarmUpPolicy
  tAbsMin : Int
  tWarn : Int
  tTrip : Int
  deltaMax : Int
  deriving DecidableEq, Repr

/-- The eight budget parameters (R59). -/
structure BudgetParams where
  bTot : Nat
  rc : Nat
  p0 : Nat
  p1 : Nat
  pFan : Nat
  pBl : Nat
  lInit : Nat
  lCap : Nat
  deriving DecidableEq, Repr

/-- The watchdog parameters (R120); the window is in minutes. -/
structure WatchdogParams where
  tBoot : Nat
  tHb : Nat
  tokenCheck : Bool
  window : Nat
  k : Nat
  m : Nat
  deriving DecidableEq, Repr

/-- Everything the image holds (R152), as its owning blocks hold it in force. -/
structure Settings where
  pass : List PassDef
  answers : List Answer
  defaultDown : DefaultAction
  defaultUp : DefaultAction
  keymap : List KeymapEntry
  chords : List ChordDef
  keypad : KeypadParams
  channels : ThermalChannels
  sensing : ThermalSensing
  budget : BudgetParams
  watchdog : WatchdogParams
  enables : BitVec 13
  deriving DecidableEq, Repr

/-! ## Blocks -/

/-- The time bases (R3 to R5): `now` is the instant, `phaseAt` the instant the phase was entered. -/
structure Clock where
  now : Nat
  uptime : Nat
  cabinet : Word32
  timeInPhase : Nat
  phaseAt : Nat
  deriving DecidableEq, Repr

/-- What a heater's three comparators report (chapter 3): current above the overcurrent threshold, current below the open-load
threshold, output voltage above the off-state threshold. -/
structure HeaterSense where
  trip : Bool
  openLoad : Bool
  sense : Bool
  deriving DecidableEq, Repr

/-- The levels at the input pins: PWRGOOD, HEAT_INH#, each port's RDY_IN, the three sensor conversions and the key matrix as last
read, and the comparators. -/
structure Pins where
  pwrgood : Bool
  heatInhLow : Bool
  rdyC : Bool
  rdyB : Bool
  h0 : HeaterSense
  h1 : HeaterSense
  fanTrip : Bool
  air : RawCode
  display : RawCode
  board : RawCode
  matrix : Matrix
  deriving DecidableEq, Repr

/-- The computer's power and reset lines (R1), and the moves the last phase entry made on them, in order. -/
structure Lines where
  pwrEn : Bool
  pcRst : Bool
  moves : List LineMove
  deriving DecidableEq, Repr

/-- The phase controller (chapter 1). `firings` are the chord firings that the scanner has handed on and that have not been taken yet, oldest
first: the phase may change between the scanner's test and the taking (R10, R23). -/
structure PhaseControl where
  phase : Phase
  warmUp : WarmUpTimer
  stability : Option Nat
  wait : Option Nat
  supplyLoss : Option Nat
  resetPulse : Option Nat
  offTime : Option Nat
  originLockout : Bool
  ledFrom : Nat
  overlay : Option Overlay
  overlayFrom : Nat
  firings : List ChordAction
  deriving DecidableEq, Repr

/-- One sensor record (R29 to R32). -/
structure Sensor where
  state : SensorState
  faultyRun : Nat
  validRun : Nat
  reading : Option Int
  filtered : Option Int
  deriving DecidableEq, Repr

/-- The gate record (chapter 2.6); the soak elapsed is in milliseconds, and `span` is the T_soak of the last sample, in seconds: the
one soak remaining is counted from (R38). -/
structure Gate where
  satisfied : Bool
  since : Option Nat
  soakMs : Nat
  complete : Bool
  span : Nat
  deriving DecidableEq, Repr

/-- The sensor unit (chapter 2), with the overheat warning state and dwell (R19, R20). -/
structure SensorUnit where
  air : Sensor
  display : Sensor
  board : Sensor
  effAir : Option Int
  effDisplay : Option Int
  effBoard : Option Int
  gate : Gate
  warnRaised : Bool
  dwellMs : Nat
  sampleAt : Nat
  deriving DecidableEq, Repr

/-- What the three channel records have in common (chapter 3). `on` is the switch, or the fan drive; the flags and conditions
have the bits of `ThermalChannels`; `overFrom` is the start of a running overcurrent filter. -/
structure Channel where
  demand : Nat
  offered : Nat
  applied : Nat
  state : ChannelState
  holdOff : Bool
  trips : List Nat
  flags : BitVec 3
  conds : BitVec 3
  summary : Bool
  on : Bool
  overFrom : Option Nat
  deriving DecidableEq, Repr

/-- A heater channel (R40 to R43, R49, R50), with the starts of its open-load and short-to-supply measurements. -/
structure Heater where
  ch : Channel
  base : Nat
  openFrom : Option Nat
  goodFrom : Option Nat
  shortFrom : Option Nat
  lowFrom : Option Nat
  deriving DecidableEq, Repr

/-- The fan channel (R44 to R46). `stallFrom` is the start of a running stall dwell. -/
structure Fan where
  ch : Channel
  running : Bool
  speed : Nat
  lastPulse : Option Nat
  stallFrom : Option Nat
  deriving DecidableEq, Repr

/-- The cooling-degraded record (R56), dwells in milliseconds. -/
structure Cooling where
  degraded : Bool
  setMs : Nat
  clearMs : Nat
  deriving DecidableEq, Repr

/-- The channel unit (chapter 3). -/
structure ChannelUnit where
  h0 : Heater
  h1 : Heater
  fan : Fan
  inhibit : Bool
  inhRise : Option Nat
  cooling : Cooling
  deriving DecidableEq, Repr

/-- The last-allocation record (R65). -/
structure Allocation where
  compCharge : Nat
  fanGrant : Nat
  fanCharge : Nat
  h1Grant : Nat
  h1Charge : Nat
  ceiling : Nat
  blCharge : Nat
  h0Grant : Nat
  h0Charge : Nat
  deriving DecidableEq, Repr

/-- The backlight record (chapter 4.5). -/
structure Backlight where
  lReq : Nat
  lFwd : Nat
  template : Option Frame
  levelOffset : Option Nat
  clamped : Bool
  resend : Bool
  ceiling : Nat
  unenforced : Bool
  deriving DecidableEq, Repr

/-- The budget unit (chapter 4); `periodAt` is the last expiry of the 1 s timer. -/
structure BudgetUnit where
  last : Allocation
  limitedRun : Nat
  periodAt : Nat
  back : Backlight
  deriving DecidableEq, Repr

/-- A frame in the downstream queue (R83). -/
structure DownFrame where
  frame : Frame
  mark : LevelMark
  deriving DecidableEq, Repr

/-- A frame in the upstream queue (R84). -/
structure UpFrame where
  frame : Frame
  rank : Rank
  deriving DecidableEq, Repr

/-- A frame in a transmitter (R76). -/
structure Sending where
  frame : Frame
  since : Nat
  deriving DecidableEq, Repr

/-- A port's counters (R90); RESET_DISCARD stays 0 on the B-port. -/
structure Counters where
  good : Nat
  check : Nat
  length : Nat
  timeout : Nat
  misrouted : Nat
  overflow : Nat
  stallDiscard : Nat
  resetDiscard : Nat
  deriving DecidableEq, Repr

/-- One port: its receive assembly (empty in HUNT, R78), the end of its last byte, its transmitter, and its stall judgement (R87). -/
structure Port where
  assembly : List Byte
  lastByte : Nat
  sending : Option Sending
  stalled : Bool
  stallFrom : Option Nat
  counters : Counters
  deriving DecidableEq, Repr

/-- The link unit (chapter 5). Both queues have their oldest frame first. `rxFrom` is the instant at which PC_RST# was last released, the
earliest from which the low time of the C-port's RX is measured, and `rxJudged` the fall of RX that began the low period in
which a BREAK was last judged there (R80). -/
structure LinkUnit where
  rateHigh : Bool
  c : Port
  b : Port
  down : List DownFrame
  up : List UpFrame
  rxFrom : Nat
  rxJudged : Option Nat
  deriving DecidableEq, Repr

/-- The counts of one pass entry (R91). -/
structure EntryCounts where
  hits : Nat
  special : Nat
  lastHit : Option Word32
  deriving DecidableEq, Repr

/-- One record of the restart history (R121). -/
structure RestartRecord where
  cause : RestartCause
  action : RestartAction
  phaseLeft : Phase
  cabinet : Word32
  uptime : Nat
  board : Option Int
  staleCount : Nat
  lateCount : Nat
  deriving DecidableEq, Repr

/-- A suspension stretch (R114). -/
structure Suspension where
  start : Nat
  expiry : Nat
  deriving DecidableEq, Repr

/-- The restart supervisor (chapter 7). The history is oldest first; the open record, where there is one, is its newest (R122). -/
structure Supervisor where
  deadline : DeadlineState
  expiry : Nat
  firstHeartbeat : Bool
  pulseToken : Option Byte
  entryTokens : List (Option Byte)
  staleCount : Nat
  suspension : Option Suspension
  arm : Option Nat
  floor : Nat
  history : List RestartRecord
  openRecord : Bool
  addedSinceRun : Bool
  deriving DecidableEq, Repr

/-- One key record (chapter 8), times in milliseconds. -/
structure Key where
  raw : Bool
  ambiguous : Bool
  state : KeyState
  pending : Nat
  held : Nat
  repeatTime : Nat
  repeats : Nat
  delivering : Bool
  repeating : Bool
  deriving DecidableEq, Repr

/-- The running part of one chord entry (R135). -/
structure ChordRun where
  state : ChordState
  elapsed : Nat
  deriving DecidableEq, Repr

/-- One key event record (R137). -/
structure KeyEvent where
  kind : KeyKind
  position : Option Nat
  code : Byte
  chord : Option Nat
  cold : Bool
  stuck : Bool
  resync : Bool
  truncated : Bool
  stamp : Word32
  codes : List Byte
  deriving DecidableEq, Repr

/-- The keypad scanner (chapter 8), with the effective times of the last pass (R129). -/
structure Keypad where
  keys : List Key
  chords : List ChordRun
  queue : List KeyEvent
  loss : Bool
  pressEff : Nat
  relEff : Nat
  coldPress : Bool
  coldRel : Bool
  scanAt : Nat
  deriving DecidableEq, Repr

/-- The command processor and notice unit (chapter 9): the pending flags (bit `n - 1` for cause `n`), the notice-outstanding
flag, and the status part pointer (R161; set means part 2). -/
structure NoticeUnit where
  pending : BitVec 13
  outstanding : Bool
  statusPart2 : Bool
  deriving DecidableEq, Repr

/-- The contents of the image area when something was written to it whole, in the order of R152: the format number and the length,
the settings, and the two bytes of the check as they stand in the area. -/
structure Image where
  format : Word16
  length : Word16
  settings : Settings
  checkFirst : Byte
  checkSecond : Byte
  deriving DecidableEq, Repr

/-- The settings store (chapter 10). `area` is none when it was left erased or partly written, and while a programming runs stands as it stood before it
(DESIGN CHOICE, log entry 41); `programming` is the instant a store
in progress was accepted. -/
structure Store where
  area : Option Image
  shadow : Option Settings
  programming : Option Nat
  capture : Option Settings
  deriving DecidableEq, Repr

/-! ## The machine -/

/-- The whole part. `pending`, `pace` and `draw` are the model's own: the commands that wait, the span an idle step lets pass
at most, and the count of free values drawn. -/
structure State where
  powered : Bool
  clock : Clock
  pins : Pins
  lines : Lines
  ctl : PhaseControl
  sens : SensorUnit
  chan : ChannelUnit
  bud : BudgetUnit
  link : LinkUnit
  pass : List EntryCounts
  sup : Supervisor
  keys : Keypad
  note : NoticeUnit
  store : Store
  cfg : Settings
  pending : List Instr
  pace : Nat
  draw : Nat
  deriving DecidableEq, Repr

/-- The manual names no event that stops the part: a machine check does not exist, and no command ends in a fault. -/
inductive Fault where
  deriving DecidableEq, Repr

/-- Why a command has no meaning here. -/
inductive Refusal where
  /-- Raised by `exec` alone, for a row that has no meaning yet. Safe: the model stops where the part goes on. -/
  | notModelled (mnemonic : String)
  deriving DecidableEq, Repr

/-! ## Power-on reset -/

/-- A pass entry as the factory leaves it (R153). Its selector is absent, and the value byte of an absent selector, which the manual does
not state, is 00h: DESIGN CHOICE, log entry 34. -/
def PassDef.factory : PassDef :=
  { active := false, direction := .down, action := .forward, nodeAny := false, node := 0, clsValue := 0, clsMask := 0,
    selectorPresent := false, selector := 0, phases := 0, tokenOffset := 0xFF, forward := false, levelOffset := 0,
    answerIndex := 0 }

/-- The factory defaults (R153). What the manual leaves out of the chords is DESIGN CHOICE, log entry 34: the third, unused member byte of
chords 0 to 2 is 00h, and the unused chord 3 holds 500 ms, REQUEST_RESTART, the empty phase set and members 00h. -/
def Settings.factory : Settings where
  pass := List.replicate 32 PassDef.factory
  answers := List.replicate 8 { cls := 0, phaseOffset := 0xFF, boardOffset := 0xFF, soakOffset := 0xFF, template := [] }
  defaultDown := .forward
  defaultUp := .forward
  keymap := (List.range 48).map fun p => { code := BitVec.ofNat 8 (p + 1), repeats := false, deliver := true }
  chords :=
    [{ count := 2, m0 := 0, m1 := 7, m2 := 0, holdMs := 5000, action := .skipWarmup, phases := 0x01 },
     { count := 2, m0 := 0, m1 := 47, m2 := 0, holdMs := 8000, action := .clearLockout, phases := 0x80 },
     { count := 2, m0 := 0, m1 := 47, m2 := 0, holdMs := 8000, action := .requestRestart, phases := 0x0C },
     { count := 0, m0 := 0, m1 := 0, m2 := 0, holdMs := 500, action := .requestRestart, phases := 0x00 }]
  keypad := { tPress := 20, tRel := 20, tCold := 0, kCold := 2, tStuck := 30, repeatDelay := 400, repeatPeriod := 80 }
  channels :=
    { h0Run := 40, h0Preheat := 60, h1Run := 20, h1Preheat := 40, pb0 := 80, pb1 := 40, tOn := 140, tFull := 200,
      mask0 := 7, mask1 := 7, maskF := 3 }
  sensing :=
    { trimAir := 0, trimDisplay := 0, trimBoard := 0, gBoard := -60, gDisp := -20, tSoak := 60, warmUpLimit := 45,
      policy := .bootAnyway, tAbsMin := -120, tWarn := 280, tTrip := 340, deltaMax := 100 }
  budget := { bTot := 160, rc := 70, p0 := 120, p1 := 40, pFan := 10, pBl := 24, lInit := 255, lCap := 128 }
  watchdog := { tBoot := 180, tHb := 10, tokenCheck := true, window := 30, k := 3, m := 3 }
  enables := 0x1FFF

/-- A sensor at power-on reset (R39). -/
def Sensor.cold : Sensor := { state := .starting, faultyRun := 0, validRun := 0, reading := none, filtered := none }

/-- A channel at power-on reset (R58), in the state given. -/
def Channel.cold (st : ChannelState) : Channel :=
  { demand := 0, offered := 0, applied := 0, state := st, holdOff := false, trips := [], flags := 0, conds := 0,
    summary := false, on := false, overFrom := none }

/-- A heater at power-on reset (R58): INHIBITED if HEAT_INH# is low then (R55). -/
def Heater.cold (inhibited : Bool) : Heater :=
  { ch := Channel.cold (if inhibited then .inhibited else .off), base := 0,
    openFrom := none, goodFrom := none, shortFrom := none, lowFrom := none }

/-- A key at power-on reset (R142). -/
def Key.cold : Key :=
  { raw := false, ambiguous := false, state := .up, pending := 0, held := 0, repeatTime := 0, repeats := 0,
    delivering := false, repeating := false }

/-- Counters at power-on reset (R90). -/
def Counters.zero : Counters :=
  { good := 0, check := 0, length := 0, timeout := 0, misrouted := 0, overflow := 0, stallDiscard := 0, resetDiscard := 0 }

/-- A port at power-on reset (R90). -/
def Port.cold : Port :=
  { assembly := [], lastByte := 0, sending := none, stalled := false, stallFrom := none,
    counters := Counters.zero }

/-- A pass entry's counts at power-on reset (R108). -/
def EntryCounts.zero : EntryCounts := { hits := 0, special := 0, lastHit := none }

/-- Every block as its own chapter has it at power-on reset (R6, R39, R58, R74, R90, R108, R124, R142, R149, R161), with the
settings, the pins and the store given, before the PREHEAT entry of R6 is made. The effective times and cold flags of the last pass, which R142 does
not list, stand before any pass as a pass without a reading leaves them (R129): DESIGN CHOICE, log entry 43. An
unused chord, whose state R142 does not give, starts ARMED with hold elapsed 0 as a used one does: DESIGN CHOICE, log entry 45. -/
def State.cold (cfg : Settings) (pins : Pins) (rateHigh : Bool) (store : Store) (pendingCauses : BitVec 13) : State where
  powered := true
  clock := { now := 0, uptime := 0, cabinet := 0, timeInPhase := 0, phaseAt := 0 }
  pins := pins
  lines := { pwrEn := false, pcRst := true, moves := [] }
  ctl :=
    { phase := .preheat, warmUp := .stopped, stability := none, wait := none, supplyLoss := none, resetPulse := none,
      offTime := none, originLockout := false, ledFrom := 0, overlay := none, overlayFrom := 0, firings := [] }
  sens :=
    { air := Sensor.cold, display := Sensor.cold, board := Sensor.cold, effAir := none, effDisplay := none,
      effBoard := none, gate := { satisfied := false, since := none, soakMs := 0, complete := false, span := cfg.sensing.tSoak },
      warnRaised := false, dwellMs := 0, sampleAt := 0 }
  chan :=
    { h0 := Heater.cold pins.heatInhLow, h1 := Heater.cold pins.heatInhLow,
      fan := { ch := Channel.cold .off, running := false, speed := 0, lastPulse := none, stallFrom := none },
      inhibit := pins.heatInhLow, inhRise := none, cooling := { degraded := false, setMs := 0, clearMs := 0 } }
  bud :=
    { last := { compCharge := 0, fanGrant := 0, fanCharge := 0, h1Grant := 0, h1Charge := 0, ceiling := 0, blCharge := 0,
                h0Grant := 0, h0Charge := 0 },
      limitedRun := 0, periodAt := 0,
      back := { lReq := cfg.budget.lInit, lFwd := cfg.budget.lInit, template := none, levelOffset := none, clamped := false,
                resend := false, ceiling := cfg.budget.lInit, unenforced := false } }
  link := { rateHigh := rateHigh, c := Port.cold, b := Port.cold, down := [], up := [], rxFrom := 0, rxJudged := none }
  pass := List.replicate 32 EntryCounts.zero
  sup :=
    { deadline := .stopped, expiry := 0, firstHeartbeat := false, pulseToken := none, entryTokens := List.replicate 32 none,
      staleCount := 0, suspension := none, arm := none, floor := 0, history := [], openRecord := false,
      addedSinceRun := false }
  keys :=
    { keys := List.replicate 48 Key.cold, chords := List.replicate 4 { state := .armed, elapsed := 0 }, queue := [],
      loss := false, pressEff := 120, relEff := 120, coldPress := true, coldRel := true, scanAt := 0 }
  note := { pending := pendingCauses, outstanding := false, statusPart2 := false }
  store := store
  cfg := cfg
  pending := []
  pace := 1000
  draw := 0

/-- A heater's comparators with nothing to report. -/
def HeaterSense.quiet : HeaterSense := { trip := false, openLoad := false, sense := false }

/-- The pins at reset, which the manual does not fix: PWRGOOD low, HEAT_INH# high, both RDY_IN asserted, no comparator reporting,
three sensors at 0 °C, no key pressed. DESIGN CHOICE, log entry 2. -/
def Pins.reset : Pins :=
  { pwrgood := false, heatInhLow := false, rdyC := true, rdyB := true, h0 := HeaterSense.quiet, h1 := HeaterSense.quiet,
    fanTrip := false, air := 1220, display := 1220, board := 1220, matrix := 0 }

/-- The machine right after power-on reset (R6), with an image area that never held an image (R153: the factory defaults
and SETTINGS_DEFAULTED; log entry 2), and the PREHEAT entry made: its allocation has granted the fan 64 and each heater 8 (R58). -/
def State.reset : State :=
  let s := State.cold Settings.factory Pins.reset false
    { area := none, shadow := none, programming := none, capture := none } 0x1000
  let on (d g : Nat) (c : Channel) : Channel := { c with demand := d, offered := g, applied := g, state := .active, on := true }
  let heat (h : Heater) : Heater := { h with ch := on 16 8 h.ch, base := 8, goodFrom := some 0 }
  { s with
    ctl := { s.ctl with warmUp := .running (45 * 60000000) }
    chan := { s.chan with
      h0 := heat s.chan.h0
      h1 := heat s.chan.h1
      fan := { s.chan.fan with ch := on 64 64 s.chan.fan.ch, stallFrom := some 0 } }
    bud := { s.bud with
      last := { compCharge := 0, fanGrant := 64, fanCharge := 10, h1Grant := 8, h1Charge := 5, ceiling := 255, blCharge := 24,
                h0Grant := 8, h0Charge := 15 } } }

end Sys2Proof.Machine
end

