-- ==== Sys2Proof/Machine/Bytes.lean ====
section
/-! DEFINITION. Bytes on the link: multi-byte fields (R156), the check (R77), frames as bytes (R157), and the codes of R158. -/

namespace Sys2Proof.Machine

/-! ## Fields (R156) -/

/-- The low byte of a number. -/
def byte (n : Nat) : Byte := BitVec.ofNat 8 n

/-- A 16-bit field, high byte first. -/
def be16 (n : Nat) : List Byte := [byte (n / 256), byte n]

/-- A 32-bit field, high byte first. -/
def be32 (n : Nat) : List Byte := [byte (n / 16777216), byte (n / 65536), byte (n / 256), byte n]

/-- A signed 16-bit field in two's complement, high byte first. -/
def beInt (t : Int) : List Byte := be16 (t % 65536).toNat

/-- A temperature field: 8000h stands for "none". -/
def tempBytes : Option Int → List Byte
  | none => [0x80, 0x00]
  | some t => beInt t

/-- A flag as it is reported (R159). -/
def flagByte (b : Bool) : Byte := if b then 1 else 0

/-- The unsigned 16-bit field at position `i` of a payload. -/
def u16At (p : List Byte) (i : Nat) : Nat := (p.getD i 0).toNat * 256 + (p.getD (i + 1) 0).toNat

/-- The unsigned 32-bit field at position `i` of a payload. -/
def u32At (p : List Byte) (i : Nat) : Nat := u16At p i * 65536 + u16At p (i + 2)

/-- The unsigned byte at position `i` of a payload. -/
def u8At (p : List Byte) (i : Nat) : Nat := (p.getD i 0).toNat

/-- A number of `2 * half` values read as two's complement. -/
def signed (half : Nat) (n : Nat) : Int := if n < half then n else (n : Int) - 2 * half

/-- The signed 16-bit field at position `i` of a payload. -/
def s16At (p : List Byte) (i : Nat) : Int := signed 32768 (u16At p i)

/-- The signed byte at position `i` of a payload. -/
def s8At (p : List Byte) (i : Nat) : Int := signed 128 (u8At p i)

/-- The flag byte at position `i` of a payload: set for any value but 00h (R159). -/
def flagAt (p : List Byte) (i : Nat) : Bool := p.getD i 0 != 0

/-! ## The check (R77) -/

/-- One bit taken into the check register (R77, steps 3 and 4). -/
def crcBit (reg : Word16) (b : Bool) : Word16 := if b != reg.msb then (reg <<< 1) ^^^ 0x8005#16 else reg <<< 1

/-- One byte taken into the check register, most significant bit first. -/
def crcByte (reg : Word16) (x : Byte) : Word16 :=
  [7, 6, 5, 4, 3, 2, 1, 0].foldl (fun r i => crcBit r (x.getLsbD i)) reg

/-- The check over a list of bytes: the register starts at FFFFh and is not inverted at the end (R77). -/
def crc16 (l : List Byte) : Word16 := l.foldl crcByte 0xFFFF#16

/-! ## Frames (R157) -/

/-- The byte that opens every frame. -/
def syncByte : Byte := 0xD2

/-- The part's own node address. -/
def ownNode : Byte := 0x0F

/-- The panel computer node. -/
def computerNode : Byte := 0x01

/-- The address of every node. -/
def allNodes : Byte := 0x00

/-- Whether an address is a bezel node's (R77): 20h to 3Fh. -/
def isBezel (a : Byte) : Bool := decide (0x20 ≤ a.toNat) && decide (a.toNat ≤ 0x3F)

/-- The bytes the check covers: destination through the last payload byte. -/
def checkedBytes (dst src cls : Byte) (payload : List Byte) : List Byte :=
  dst :: src :: cls :: byte payload.length :: payload

/-- A frame of the part's own making, its check computed (R77). -/
def mkFrame (dst src cls : Byte) (payload : List Byte) : Frame :=
  { dst := dst, src := src, cls := cls, payload := payload, check := crc16 (checkedBytes dst src cls payload) }

/-- Whether the check a frame carries is the one computed over it (R79). -/
def checkMatches (f : Frame) : Bool := f.check == crc16 (checkedBytes f.dst f.src f.cls f.payload)

/-- A frame as bytes on the wire (R157). -/
def frameBytes (f : Frame) : List Byte :=
  syncByte :: checkedBytes f.dst f.src f.cls f.payload ++ be16 f.check.toNat

/-- The frame that opens a list of bytes which starts with a whole frame of `n` payload bytes. -/
def frameOf (l : List Byte) (n : Nat) : Frame :=
  { dst := l.getD 1 0, src := l.getD 2 0, cls := l.getD 3 0, payload := (l.drop 5).take n,
    check := BitVec.ofNat 16 (u16At l (5 + n)) }

/-- A frame with the payload byte at `i` replaced and a fresh check (R67, R69). -/
def withLevel (f : Frame) (i level : Nat) : Frame := mkFrame f.dst f.src f.cls (f.payload.set i (byte level))

/-! ## Codes (R158) -/

def Phase.code : Phase → Nat
  | .preheat => 1
  | .powerOn => 2
  | .boot => 3
  | .run => 4
  | .restart => 5
  | .powerCycle => 6
  | .cooldown => 7
  | .lockout => 8

/-- Membership in a phase set: bit `n - 1` stands for the phase of code `n` (R156). -/
def inPhaseSet (set : Byte) (p : Phase) : Bool := set.getLsbD (p.code - 1)

def SensorState.code : SensorState → Nat
  | .starting => 0
  | .valid => 1
  | .failed => 2

def ChannelState.code : ChannelState → Nat
  | .off => 0
  | .active => 1
  | .inhibited => 2
  | .lockedOff => 3

def DeadlineState.code : DeadlineState → Nat
  | .stopped => 0
  | .bootWindow => 1
  | .heartbeat => 2
  | .suspended => 3

def PassAction.code : PassAction → Nat
  | .forward => 0
  | .drop => 1
  | .heartbeat => 2
  | .clampLevel => 3
  | .answer => 4

def PassAction.ofCode : Nat → Option PassAction
  | 0 => some .forward
  | 1 => some .drop
  | 2 => some .heartbeat
  | 3 => some .clampLevel
  | 4 => some .answer
  | _ => none

def Direction.code : Direction → Nat
  | .down => 0
  | .up => 1

def Direction.ofCode : Nat → Option Direction
  | 0 => some .down
  | 1 => some .up
  | _ => none

def DefaultAction.code : DefaultAction → Nat
  | .forward => 0
  | .drop => 1

def DefaultAction.ofCode : Nat → Option DefaultAction
  | 0 => some .forward
  | 1 => some .drop
  | _ => none

def RestartCause.code : RestartCause → Nat
  | .bootTimeout => 1
  | .heartbeatTimeout => 2
  | .supplyFail => 3
  | .supplyLoss => 4
  | .commandedReset => 5
  | .commandedCycle => 6
  | .chordRestart => 7
  | .overheat => 8

def RestartAction.code : RestartAction → Nat
  | .reset => 1
  | .powerCycle => 2
  | .cooldown => 3
  | .lockout => 4

def KeyKind.code : KeyKind → Nat
  | .press => 1
  | .release => 2
  | .repeated => 3
  | .chord => 4
  | .snapshot => 5

def ChordAction.code : ChordAction → Nat
  | .requestRestart => 0
  | .skipWarmup => 1
  | .clearLockout => 2
  | .report => 3

def ChordAction.ofCode : Nat → Option ChordAction
  | 0 => some .requestRestart
  | 1 => some .skipWarmup
  | 2 => some .clearLockout
  | 3 => some .report
  | _ => none

def WarmUpPolicy.code : WarmUpPolicy → Nat
  | .bootAnyway => 0
  | .keepHeating => 1

def WarmUpPolicy.ofCode : Nat → Option WarmUpPolicy
  | 0 => some .bootAnyway
  | 1 => some .keepHeating
  | _ => none

/-- An entry state or a token-checking byte: 0 or 1 (R158, R159). -/
def boolOfCode : Nat → Option Bool
  | 0 => some false
  | 1 => some true
  | _ => none

def Cause.code : Cause → Nat
  | .overheatWarn => 1
  | .channelFault => 2
  | .fanStall => 3
  | .sensorFault => 4
  | .coolingDegraded => 5
  | .restartRecorded => 6
  | .keyLoss => 7
  | .linkFault => 8
  | .budgetLimited => 9
  | .suspendExpired => 10
  | .storeDone => 11
  | .storeFailed => 12
  | .settingsDefaulted => 13

def Rank.code : Rank → Nat
  | .reply => 0
  | .notice => 1
  | .key => 2
  | .forwarded => 3

end Sys2Proof.Machine
end

