-- ==== Sys2Proof/Machine/Flags.lean ====
section
/-! DEFINITION. Flags: the cause set (R149) and the channels' sticky flags, conditions and summaries (R51, R52). -/

namespace Sys2Proof.Machine

/-! ## The cause set -/

/-- The thirteen causes in priority order (R149). -/
def allCauses : List Cause :=
  [.overheatWarn, .channelFault, .fanStall, .sensorFault, .coolingDegraded, .restartRecorded, .keyLoss, .linkFault,
   .budgetLimited, .suspendExpired, .storeDone, .storeFailed, .settingsDefaulted]

/-- The bit of a cause in the pending and enable flags (R160). -/
def causeBit (c : Cause) : BitVec 13 := BitVec.twoPow 13 (c.code - 1)

/-- Raises a cause: its pending flag is set, in any phase and whatever its enable (R149). -/
def raise (c : Cause) (s : State) : State := { s with note.pending := s.note.pending ||| causeBit c }

/-- Raises a cause when a condition holds. -/
def raiseIf (b : Bool) (c : Cause) (s : State) : State := if b then raise c s else s

/-- Whether a cause is pending. -/
def isPending (c : Cause) (s : State) : Bool := s.note.pending.getLsbD (c.code - 1)

/-- Whether a cause is both pending and enabled (R149). -/
def isEligible (c : Cause) (s : State) : Bool := (s.note.pending &&& s.cfg.enables).getLsbD (c.code - 1)

/-- The eligible causes, highest priority first. -/
def eligible (s : State) : List Cause := allCauses.filter fun c => isEligible c s

/-! ## Channel flags -/

/-- The bit of OVERCURRENT, on every channel (R160). -/
def overcurrentBit : BitVec 3 := 1

/-- The bit of OPEN_LOAD on a heater, and of STALL on the fan (R160). -/
def openLoadBit : BitVec 3 := 2

/-- The bit of STALL on the fan (R160). -/
def stallBit : BitVec 3 := 2

/-- The bit of SHORT_TO_SUPPLY on a heater (R160). -/
def shortBit : BitVec 3 := 4

/-- A heater's summary: the OR of its set, enabled flags (R51). -/
def heaterSummary (mask flags : BitVec 3) : Bool := flags &&& mask != 0

/-- The fan's summary: STALL takes no part (R51). -/
def fanSummary (mask flags : BitVec 3) : Bool := flags &&& mask &&& overcurrentBit != 0

/-- A channel's condition becomes present, and its flag is set (R51). -/
def setCondition (bit : BitVec 3) (c : Channel) : Channel := { c with flags := c.flags ||| bit, conds := c.conds ||| bit }

/-- A channel's condition becomes absent; its flag stays (R51). -/
def clearCondition (bit : BitVec 3) (c : Channel) : Channel := { c with conds := c.conds &&& ~~~bit }

/-- Whether a condition stands. -/
def hasCondition (bit : BitVec 3) (c : Channel) : Bool := c.conds &&& bit != 0

/-- The channel record of a channel. -/
def channelOf (c : ChannelId) (s : State) : Channel :=
  match c with
  | .h0 => s.chan.h0.ch
  | .h1 => s.chan.h1.ch
  | .fan => s.chan.fan.ch

/-- The channel record of a channel, replaced. -/
def setChannel (c : ChannelId) (x : Channel) (s : State) : State :=
  match c with
  | .h0 => { s with chan.h0.ch := x }
  | .h1 => { s with chan.h1.ch := x }
  | .fan => { s with chan.fan.ch := x }

/-- The heater record of a heater. -/
def heaterOf (h : HeaterId) (s : State) : Heater :=
  match h with
  | .h0 => s.chan.h0
  | .h1 => s.chan.h1

/-- The heater record of a heater, replaced. -/
def setHeater (h : HeaterId) (x : Heater) (s : State) : State :=
  match h with
  | .h0 => { s with chan.h0 := x }
  | .h1 => { s with chan.h1 := x }

/-- A heater as a channel. -/
def heaterChannel : HeaterId → ChannelId
  | .h0 => .h0
  | .h1 => .h1

/-- What a channel's summary is by its flags and the mask in force (R51). -/
def summaryOf (c : ChannelId) (s : State) : Bool :=
  match c with
  | .h0 => heaterSummary s.cfg.channels.mask0 s.chan.h0.ch.flags
  | .h1 => heaterSummary s.cfg.channels.mask1 s.chan.h1.ch.flags
  | .fan => fanSummary s.cfg.channels.maskF s.chan.fan.ch.flags

/-- A channel's summary recomputed; a rise raises CHANNEL_FAULT (R51). -/
def refreshSummary (c : ChannelId) (s : State) : State :=
  let x := channelOf c s
  raiseIf (!x.summary && summaryOf c s) .channelFault (setChannel c { x with summary := summaryOf c s } s)

/-- All three summaries recomputed (R51, R52). -/
def refreshSummaries (s : State) : State := refreshSummary .fan (refreshSummary .h1 (refreshSummary .h0 s))

/-- A condition of a channel becomes present, with its flag and summary (R51). -/
def flagCondition (c : ChannelId) (bit : BitVec 3) (s : State) : State :=
  refreshSummary c (setChannel c (setCondition bit (channelOf c s)) s)

end Sys2Proof.Machine
end

