-- ==== Sys2Proof/Machine/Ops.lean ====
section
/-! DEFINITION. Operations every block uses: time and timers (R2 to R5), saturating counts, ports, and the two frame queues
(R83, R84, R86). -/

namespace Sys2Proof.Machine

/-! ## Time -/

/-- A span in milliseconds, in microseconds. -/
def ms (n : Nat) : Nat := n * 1000

/-- A span in seconds, in microseconds. -/
def sec (n : Nat) : Nat := n * 1000000

/-- The largest value of a 32-bit count. -/
def max32 : Nat := 4294967295

/-- Time goes on by `d` microseconds: uptime gains a second at each whole second and saturates (R3), cabinet time a
millisecond at each whole millisecond and wraps (R4), time in phase a second at each full second since the entry and
saturates (R5). -/
def elapse (d : Nat) (s : State) : State :=
  let n := s.clock.now
  { s with clock :=
    { s.clock with
      now := n + d
      uptime := min max32 (s.clock.uptime + ((n + d) / 1000000 - n / 1000000))
      cabinet := s.clock.cabinet + BitVec.ofNat 32 ((n + d) / 1000 - n / 1000)
      timeInPhase := min max32 (s.clock.timeInPhase + ((n + d - s.clock.phaseAt) / 1000000 - (n - s.clock.phaseAt) / 1000000)) } }

/-- Whether a timer that started at `start` has run for `span` by `now`; a timer that does not run never has. -/
def hasRun (start : Option Nat) (span now : Nat) : Bool :=
  match start with
  | none => false
  | some t => decide (t + span ≤ now)

/-- A measurement that runs while a condition holds: it goes on where it runs, starts where it does not, and is abandoned
when the condition ends. -/
def keepTimer (runs : Bool) (now : Nat) (old : Option Nat) : Option Nat := if runs then some (old.getD now) else none

/-- The seconds left before an instant, rounded up to whole seconds (R112). -/
def secondsLeft (expiry now : Nat) : Nat := (expiry - now + 999999) / 1000000

/-- A count that stops at its maximum. -/
def satInc (top n : Nat) : Nat := min top (n + 1)

/-- A 16-bit count goes up by one (R90, R107). -/
def inc16 (n : Nat) : Nat := satInc 65535 n

/-- An 8-bit count goes up by one (R111, R122). -/
def inc8 (n : Nat) : Nat := satInc 255 n

/-- The outcome of a command while the part is powered; below its operating range nothing of the part acts (R1). -/
def whenOn (s : State) (f : State → State) : Host.Outcome State Fault Refusal := .next (if s.powered then f s else s)

/-! ## Ports -/

/-- A port's record. -/
def portOf (p : PortId) (s : State) : Port :=
  match p with
  | .c => s.link.c
  | .b => s.link.b

/-- A port's record, replaced. -/
def setPort (p : PortId) (x : Port) (s : State) : State :=
  match p with
  | .c => { s with link.c := x }
  | .b => { s with link.b := x }

/-- A port's RDY_IN: asserted when its peer allows a frame (chapter 5.1). -/
def rdyIn (p : PortId) (s : State) : Bool :=
  match p with
  | .c => s.pins.rdyC
  | .b => s.pins.rdyB

/-- Whether the part holds a frame for a port (R87). -/
def holdsFrame (p : PortId) (s : State) : Bool :=
  match p with
  | .c => !s.link.up.isEmpty
  | .b => !s.link.down.isEmpty

/-- A port's RDY_OUT (R86): a view of the queue that frames received on that port fill. -/
def rdyOut (p : PortId) (s : State) : Bool :=
  match p with
  | .c => decide (s.link.down.length < 8)
  | .b => decide (s.link.up.length < 11)

/-- A port's counters changed. -/
def countOn (p : PortId) (f : Counters → Counters) (s : State) : State :=
  let x := portOf p s
  setPort p { x with counters := f x.counters } s

def Counters.incGood (c : Counters) : Counters := { c with good := inc16 c.good }
def Counters.incCheck (c : Counters) : Counters := { c with check := inc16 c.check }
def Counters.incLength (c : Counters) : Counters := { c with length := inc16 c.length }
def Counters.incTimeout (c : Counters) : Counters := { c with timeout := inc16 c.timeout }
def Counters.incMisrouted (c : Counters) : Counters := { c with misrouted := inc16 c.misrouted }
def Counters.incOverflow (c : Counters) : Counters := { c with overflow := inc16 c.overflow }
def Counters.incResetDiscard (c : Counters) : Counters := { c with resetDiscard := inc16 c.resetDiscard }

/-- STALL_DISCARD goes up by one for each of `n` frames (R87, R88). -/
def Counters.addStallDiscard (n : Nat) (c : Counters) : Counters := { c with stallDiscard := min 65535 (c.stallDiscard + n) }

/-- The stall timer of a port judged again: it runs while RDY_IN is deasserted and the part holds a frame for the port, and
not while the port is STALLED (R87). -/
def syncStall (p : PortId) (s : State) : State :=
  let x := portOf p s
  setPort p { x with stallFrom := keepTimer (!rdyIn p s && !x.stalled && holdsFrame p s) s.clock.now x.stallFrom } s

/-! ## Queues -/

/-- The downstream queue replaced, with the B-port's stall timer following it (R87). -/
def setDown (q : List DownFrame) (s : State) : State := syncStall .b { s with link.down := q }

/-- The upstream queue replaced, with the C-port's stall timer following it (R87). -/
def setUp (q : List UpFrame) (s : State) : State := syncStall .c { s with link.up := q }

/-- A frame offered to the downstream queue (R83), and whether it was taken. `received` says that the frame came in on the
C-port, so that a full queue counts in OVERFLOW and raises LINK_FAULT (R86). -/
def offerDown (received : Bool) (f : DownFrame) (s : State) : State × Bool :=
  if s.link.b.stalled then (countOn .b (Counters.addStallDiscard 1) s, false)
  else if s.link.down.length < 8 then (setDown (s.link.down ++ [f]) s, true)
  else if received then (raise .linkFault (countOn .c Counters.incOverflow s), false)
  else (s, false)

/-- A rank 3 frame offered to the upstream queue (R84, R88), and whether it was taken. `received` says that the frame came in
on the B-port, so that a lack of room counts in OVERFLOW and raises LINK_FAULT (R86). -/
def offerForwarded (received : Bool) (f : Frame) (s : State) : State × Bool :=
  if s.link.c.stalled then (countOn .c (Counters.addStallDiscard 1) s, false)
  else if s.link.up.length ≤ 10 then (setUp (s.link.up ++ [{ frame := f, rank := .forwarded }]) s, true)
  else if received then (raise .linkFault (countOn .b Counters.incOverflow s), false)
  else (s, false)

/-- How many frames of a rank stand in the upstream queue. -/
def rankCount (r : Rank) (s : State) : Nat := s.link.up.countP fun f => f.rank == r

/-- A frame of the part's own toward the computer (R143, R150, R140): destination 01h, source 0Fh. -/
def ownFrame (cls : Byte) (payload : List Byte) : Frame := mkFrame computerNode ownNode cls payload

/-- A frame of the part's own joins the upstream queue. -/
def pushUp (r : Rank) (cls : Byte) (payload : List Byte) (s : State) : State :=
  setUp (s.link.up ++ [{ frame := ownFrame cls payload, rank := r }]) s

/-- The upstream arbiter (R85): the frame of the lowest rank present that has waited longest, and the queue without it. -/
def takeByRank : List UpFrame → Option (UpFrame × List UpFrame)
  | [] => none
  | f :: rest =>
    match takeByRank rest with
    | none => some (f, rest)
    | some (g, others) => if g.rank.code < f.rank.code then some (g, f :: others) else some (f, rest)

/-- Whether a queued frame is a level frame the link unit reports back when it removes it unsent (R70). -/
def isMarked (f : DownFrame) : Bool := f.mark != .unmarked

/-- The downstream queue emptied, each marked level frame reported to the backlight record (R70). -/
def flushDown (s : State) : State :=
  setDown [] { s with bud.back.resend := s.bud.back.resend || s.link.down.any isMarked }

end Sys2Proof.Machine
end

