-- ==== Sys2Proof/Machine/Channels.lean ====
section
/-! DEFINITION. Heater and fan channels: demands (R40, R41, R44), the switches and what is measured on them (R43, R46, R47, R49, R50),
trips and LOCKED_OFF (R47, R48). -/

namespace Sys2Proof.Machine

/-! ## Demands -/

/-- The proportional law of R40. -/
def proportional (setpoint reading pb : Int) : Nat :=
  let e := setpoint - reading
  if e ≤ 0 then 0 else if pb ≤ e then 64 else (64 * e / pb).toNat

/-- The phases in which PWR_EN is on (R1). -/
def pwrEnPhase : Phase → Bool
  | .powerOn | .boot | .run | .restart => true
  | .preheat | .powerCycle | .cooldown | .lockout => false

/-- The phases in which PC_RST# is released (R1). -/
def releasedPhase : Phase → Bool
  | .boot | .run => true
  | .preheat | .powerOn | .restart | .powerCycle | .cooldown | .lockout => false

/-- A heater's demand, by the first case of R40 that applies. The setpoint sets follow the phase. -/
def heaterDemand (phase : Phase) (st : ChannelState) (inhibit : Bool) (reading : Option Int) (run preheat pb : Int) : Nat :=
  if phase = .cooldown then 0
  else if st = .lockedOff then 0
  else if inhibit then 0
  else
    match reading with
    | none => 16
    | some t => proportional (if pwrEnPhase phase then run else preheat) t pb

/-- The ramp limit (R41). -/
def rampLimit (demand base : Nat) : Nat := min demand (base + 8)

/-- The fan's run state after the update of R44. -/
def fanRunState (running : Bool) (air : Option Int) (tOn : Int) : Bool :=
  match air with
  | none => running
  | some t => if running then decide (tOn - 8 < t) else decide (tOn < t)

/-- The fan demand, by the first case of R44 that applies. -/
def fanDemand (phase : Phase) (st : ChannelState) (running : Bool) (air : Option Int) (tOn tFull : Int) : Nat :=
  if st = .lockedOff then 0
  else if phase = .cooldown then 64
  else
    match air with
    | none => 64
    | some t =>
      if !running then 0
      else if tFull ≤ t then 64
      else if tOn < t then max 16 (64 * (t - tOn) / (tFull - tOn)).toNat
      else 16

/-- The channel state after an allocation (R42). -/
def channelStateAfter (st : ChannelState) (inhibited : Bool) (applied : Nat) : ChannelState :=
  if st = .lockedOff then .lockedOff else if inhibited then .inhibited else if applied = 0 then .off else .active

/-! ## Switches -/

/-- A heater's control reading (chapter 3.1). -/
def controlReading (h : HeaterId) (s : State) : Option Int :=
  match h with
  | .h0 => s.sens.effBoard
  | .h1 => s.sens.effDisplay

/-- What a heater's comparators report. -/
def senseOf (h : HeaterId) (s : State) : HeaterSense :=
  match h with
  | .h0 => s.pins.h0
  | .h1 => s.pins.h1

/-- The on-time of an applied duty from the start of the control period: 15.625 ms a sixty-fourth (R43). -/
def onTime (applied : Nat) : Nat := applied * 15625

/-- Whether a heater switch conducts (R43). At duty 64 it conducts across the period boundary. -/
def conducts (now periodAt : Nat) (c : Channel) : Bool :=
  (decide (64 ≤ c.applied) || decide (now - periodAt < onTime c.applied)) && !c.holdOff
    && c.state != .lockedOff && c.state != .inhibited

/-- A heater's switch set by R43, and each measurement of R47, R49 and R50 kept, started or abandoned by it. -/
def syncHeater (h : HeaterId) (s : State) : State :=
  let x := heaterOf h s
  let q := senseOf h s
  let now := s.clock.now
  let on := conducts now s.bud.periodAt x.ch
  setHeater h
    { x with
      ch := { x.ch with on := on, overFrom := keepTimer (on && q.trip) now x.ch.overFrom }
      openFrom := keepTimer (on && q.openLoad) now x.openFrom
      goodFrom := keepTimer (on && !q.openLoad) now x.goodFrom
      shortFrom := keepTimer (!on && q.sense) now x.shortFrom
      lowFrom := keepTimer (!on && !q.sense) now x.lowFrom } s

/-- Whether the fan drive runs: applied duty above 0, no period hold-off, not LOCKED_OFF (R43). -/
def fanDrive (c : Channel) : Bool := decide (0 < c.applied) && !c.holdOff && c.state != .lockedOff

/-- The fan drive set by R43, its overcurrent filter (R47), and its stall dwell (R46). -/
def syncFan (s : State) : State :=
  let x := s.chan.fan
  let now := s.clock.now
  let on := fanDrive x.ch
  { s with chan.fan :=
    { x with
      ch := { x.ch with on := on, overFrom := keepTimer (on && s.pins.fanTrip) now x.ch.overFrom }
      stallFrom := keepTimer (decide (16 ≤ x.ch.applied) && !x.ch.holdOff && decide (x.speed < 600)) now x.stallFrom } }

/-- Every switch judged again. -/
def syncSwitches (s : State) : State := syncFan (syncHeater .h1 (syncHeater .h0 s))

/-- The overcurrent filter time in force (R47): 100 ms for a heater whose control reading is below 0 q or "none", else 2 ms. -/
def filterTime (c : ChannelId) (s : State) : Nat :=
  let ofReading (r : Option Int) : Nat :=
    match r with
    | none => ms 100
    | some t => if t < 0 then ms 100 else ms 2
  match c with
  | .h0 => ofReading s.sens.effBoard
  | .h1 => ofReading s.sens.effDisplay
  | .fan => ms 2

/-! ## Trips -/

/-- The trips that are not yet 60 s old (R47, chapter 3.6). That a trip of exactly 60 s is gone also where a new trip comes at that very instant is
DESIGN CHOICE: log entry 39. -/
def youngTrips (now : Nat) (l : List Nat) : List Nat := l.filter fun t => decide (now < t + sec 60)

/-- The ramp base of a channel, where it has one, set to 0. -/
def zeroBase (c : ChannelId) (s : State) : State :=
  match c with
  | .h0 => { s with chan.h0.base := 0 }
  | .h1 => { s with chan.h1.base := 0 }
  | .fan => s

/-- A channel enters LOCKED_OFF (R48). -/
def lockOff (c : ChannelId) (s : State) : State :=
  zeroBase c (setChannel c { channelOf c s with applied := 0, state := .lockedOff } s)

/-- A trip (R47): hold-off, history, flag and condition, and on the third trip within 60 s LOCKED_OFF. -/
def tripChannel (c : ChannelId) (s : State) : State :=
  let x := channelOf c s
  let trips := youngTrips s.clock.now x.trips ++ [s.clock.now]
  let s := flagCondition c overcurrentBit (setChannel c { x with holdOff := true, trips := trips } s)
  syncSwitches (if 3 ≤ trips.length then lockOff c s else s)

/-- The trips that have reached 60 s of age leave the history, outside LOCKED_OFF; an empty history ends the OVERCURRENT condition
(R47, R48, chapter 3.6). -/
def ageTrips (c : ChannelId) (s : State) : State :=
  let x := channelOf c s
  let trips := youngTrips s.clock.now x.trips
  let x := { x with trips := trips }
  setChannel c (if trips.isEmpty then clearCondition overcurrentBit x else x) s

/-- The fan speed for a pulse period in microseconds, saturating at 20,000 rpm (R45). -/
def fanRpm (p : Nat) : Nat := if p ≤ 1500 then 20000 else 30000000 / p

end Sys2Proof.Machine
end

