-- ==== Sys2Proof/Machine/Budget.lean ====
section
/-! DEFINITION. The load budget: the five stages of an allocation (R62 to R64), BUDGET_LIMITED (R66), the backlight record
(R67 to R70), and one allocation carried out whole (R61). -/

namespace Sys2Proof.Machine

/-! ## The stages -/

/-- A duty granted from what is left (R63). -/
def grantOf (avail p d : Nat) : Nat := if p = 0 then d else min d (avail * 64 / p)

/-- The charge of a granted duty, rounded up (R63). -/
def chargeOf (g p : Nat) : Nat := (g * p + 63) / 64

/-- The budget limit of stage 4 (R64), before the derate cap. -/
def budgetLimit (avail pBl : Nat) : Nat := if pBl = 0 then 255 else min 255 (avail * 255 / pBl)

/-- The backlight charge, rounded up (R64). -/
def levelCharge (l pBl : Nat) : Nat := (l * pBl + 254) / 255

/-- What an allocation reads (R61): the parameters, whether the reserve is charged, the offered demands, Lreq and degraded. -/
structure AllocInput where
  params : BudgetParams
  reserve : Bool
  dF : Nat
  d1 : Nat
  d0 : Nat
  lReq : Nat
  degraded : Bool
  deriving DecidableEq, Repr

/-- The computer charge of stage 1 (R62). -/
def compChargeOf (i : AllocInput) : Nat := if i.reserve then min i.params.rc i.params.bTot else 0

/-- What is left after stage 1. -/
def availAfterComp (i : AllocInput) : Nat := i.params.bTot - compChargeOf i

/-- What is left after stage 2, the fan. -/
def availAfterFan (i : AllocInput) : Nat :=
  availAfterComp i - chargeOf (grantOf (availAfterComp i) i.params.pFan i.dF) i.params.pFan

/-- What is left after stage 3, H1. -/
def availAfterH1 (i : AllocInput) : Nat :=
  availAfterFan i - chargeOf (grantOf (availAfterFan i) i.params.p1 i.d1) i.params.p1

/-- Lmax before the derate cap (R64, R66). -/
def limitOf (i : AllocInput) : Nat := budgetLimit (availAfterH1 i) i.params.pBl

/-- Ltgt, the ceiling (R64), with the derate cap of R73. -/
def ceilingOf (i : AllocInput) : Nat :=
  min i.lReq (if i.degraded then min (limitOf i) i.params.lCap else limitOf i)

/-- What is left after stage 4, the backlight. -/
def availAfterLevel (i : AllocInput) : Nat := availAfterH1 i - levelCharge (ceilingOf i) i.params.pBl

/-- The five stages in their order (R62 to R65). -/
def allocationOf (i : AllocInput) : Allocation where
  compCharge := compChargeOf i
  fanGrant := grantOf (availAfterComp i) i.params.pFan i.dF
  fanCharge := chargeOf (grantOf (availAfterComp i) i.params.pFan i.dF) i.params.pFan
  h1Grant := grantOf (availAfterFan i) i.params.p1 i.d1
  h1Charge := chargeOf (grantOf (availAfterFan i) i.params.p1 i.d1) i.params.p1
  ceiling := ceilingOf i
  blCharge := levelCharge (ceilingOf i) i.params.pBl
  h0Grant := grantOf (availAfterLevel i) i.params.p0 i.d0
  h0Charge := chargeOf (grantOf (availAfterLevel i) i.params.p0 i.d0) i.params.p0

/-- Whether an allocation was limited (R66). -/
def isLimited (i : AllocInput) : Bool :=
  let a := allocationOf i
  decide (a.fanGrant < i.dF) || decide (a.h1Grant < i.d1) || decide (a.h0Grant < i.d0) || decide (limitOf i < i.lReq)

/-! ## The backlight record -/

/-- The part's own level frames leave the downstream queue as superseded, unreported and uncounted (R67, R69, R83). Where
that empties the queue the B-port's stall timer starts again (R87), also where a frame joins in the same event: DESIGN CHOICE, log entry 40. -/
def supersede (s : State) : State := setDown (s.link.down.filter fun f => f.mark != .own) s

/-- The unenforced state after an event (R68, R69). -/
def judgeUnenforced (s : State) : State :=
  { s with bud.back.unenforced := decide (s.bud.back.ceiling < s.bud.back.lFwd) }

/-- Whether a level frame is due at an allocation (R69). -/
def levelDue (b : Backlight) : Bool := b.resend || decide (b.ceiling < b.lFwd) || (decide (b.lFwd < b.ceiling) && b.clamped)

/-- The level frame the record sends when one is due, built from the template at the ceiling (R69). -/
def sendLevel (s : State) : State :=
  let b := s.bud.back
  match b.template with
  | none => s
  | some t =>
    if levelDue b then
      let r := offerDown false { frame := withLevel t (b.levelOffset.getD 0) b.ceiling, mark := .own } (supersede s)
      if r.2 then
        { r.1 with bud.back.lFwd := b.ceiling, bud.back.resend := false, bud.back.clamped := decide (b.ceiling < b.lReq) }
      else { r.1 with bud.back.resend := true }
    else s

/-- A level frame from the computer, taken by the record (R67, R68); whether its level was clamped is answered beside the state. -/
def computerLevel (f : Frame) (offset : Nat) (s : State) : State × Bool :=
  let s := supersede s
  let level := u8At f.payload offset
  let above := decide (s.bud.back.ceiling < level)
  let g := if above then withLevel f offset s.bud.back.ceiling else f
  let s := { s with
    bud.back.lReq := level, bud.back.clamped := above, bud.back.template := some g, bud.back.levelOffset := some offset }
  let r := offerDown true { frame := g, mark := .computer } s
  let s := if r.2 then { r.1 with bud.back.lFwd := u8At g.payload offset, bud.back.resend := false }
    else { r.1 with bud.back.resend := true }
  (judgeUnenforced s, above)

/-! ## One allocation -/

/-- The limited run after an allocation; on reaching 60 it raises BUDGET_LIMITED (R66). -/
def countLimited (limited : Bool) (s : State) : State :=
  let n := if limited then satInc 60 s.bud.limitedRun else 0
  raiseIf (n == 60 && s.bud.limitedRun != 60) .budgetLimited { s with bud.limitedRun := n }

/-- The demands computed and offered at an allocation (R40, R41, R44). -/
def offerDemands (s : State) : State :=
  let p := s.cfg.channels
  let ph := s.ctl.phase
  let inh := s.chan.inhibit
  let running := fanRunState s.chan.fan.running s.sens.effAir p.tOn
  let d0 := heaterDemand ph s.chan.h0.ch.state inh s.sens.effBoard p.h0Run p.h0Preheat p.pb0
  let d1 := heaterDemand ph s.chan.h1.ch.state inh s.sens.effDisplay p.h1Run p.h1Preheat p.pb1
  let dF := fanDemand ph s.chan.fan.ch.state running s.sens.effAir p.tOn p.tFull
  { s with
    chan.h0.ch.demand := d0, chan.h0.ch.offered := rampLimit d0 s.chan.h0.base
    chan.h1.ch.demand := d1, chan.h1.ch.offered := rampLimit d1 s.chan.h1.base
    chan.fan.running := running, chan.fan.ch.demand := dF, chan.fan.ch.offered := dF }

/-- What an allocation reads in a state whose demands stand offered. -/
def allocInputOf (reserve : Bool) (s : State) : AllocInput :=
  { params := s.cfg.budget, reserve := reserve, dF := s.chan.fan.ch.offered, d1 := s.chan.h1.ch.offered,
    d0 := s.chan.h0.ch.offered, lReq := s.bud.back.lReq, degraded := s.chan.cooling.degraded }

/-- The grants applied as duties (R42), and the ramp bases set from them (R41). -/
def applyGrants (a : Allocation) (s : State) : State :=
  let put (inh : Bool) (g : Nat) (c : Channel) : Channel :=
    { c with applied := g, state := channelStateAfter c.state inh g }
  { s with
    chan.h0.ch := put s.chan.inhibit a.h0Grant s.chan.h0.ch, chan.h0.base := a.h0Grant
    chan.h1.ch := put s.chan.inhibit a.h1Grant s.chan.h1.ch, chan.h1.base := a.h1Grant
    chan.fan.ch := put false a.fanGrant s.chan.fan.ch }

/-- One allocation, whole (R60, R61): demands offered, stages run, grants applied to the switches, the limited run counted, the
ceiling handed to the backlight record and any level frame due sent. -/
def allocate (reserve : Bool) (s : State) : State :=
  let s := offerDemands s
  let i := allocInputOf reserve s
  let a := allocationOf i
  let s := syncSwitches (applyGrants a s)
  let s := countLimited (isLimited i) { s with bud.last := a, bud.back.ceiling := a.ceiling }
  judgeUnenforced (sendLevel s)

/-- An allocation that charges the reserve as PWR_EN stands (R60). -/
def allocateNow (s : State) : State := allocate s.lines.pwrEn s

end Sys2Proof.Machine
end

