-- ==== Sys2Proof/Machine/KeyQueue.lean ====
section
/-! DEFINITION. The key event queue and its delivery (R137 to R140), the NOTICE test (R150), and the follow-ups an event ends with. -/

namespace Sys2Proof.Machine

/-- A key that is down: between its PRESS and its RELEASE (chapter 8). -/
def Key.isDown (k : Key) : Bool := k.state == .down || k.state == .releasePending

/-- How many positions are down (R146). -/
def keysDown (s : State) : Nat := s.keys.keys.countP Key.isDown

/-- Whether an event is a key change: PRESS, RELEASE or REPEAT (R138). -/
def KeyEvent.isKeyChange (e : KeyEvent) : Bool := e.kind == .press || e.kind == .release || e.kind == .repeated

/-- One event offered to the key event queue, by the first case of R138 that applies; `delivering` is the key's flag. -/
def admitEvent (delivering : Bool) (e : KeyEvent) (s : State) : State :=
  if s.ctl.phase != .run then s
  else if e.isKeyChange && !delivering then s
  else if s.keys.loss && e.isKeyChange then s
  else if e.kind == .repeated && decide (12 ≤ s.keys.queue.length) then s
  else if e.kind == .repeated && s.keys.queue.any (fun x => x.kind == .repeated && x.position == e.position) then s
  else if 16 ≤ s.keys.queue.length then raise .keyLoss { s with keys.loss := true }
  else { s with keys.queue := s.keys.queue ++ [e] }

/-- The codes of the keys that are down with their delivering flag set, in position order (R137). -/
def downCodes (s : State) : List Byte :=
  (s.keys.keys.zipIdx.filter fun kp => kp.1.isDown && kp.1.delivering).map fun kp =>
    match s.cfg.keymap[kp.2]? with
    | some ent => ent.code
    | none => 0

/-- A SNAPSHOT record made now (R137, R139): at most 24 codes, its cold flag from the press side of the last pass (R129). -/
def snapshotEvent (resync : Bool) (s : State) : KeyEvent :=
  { kind := .snapshot, position := none, code := 0, chord := none, cold := s.keys.coldPress, stuck := false, resync := resync,
    truncated := decide (24 < (downCodes s).length), stamp := s.clock.cabinet, codes := (downCodes s).take 24 }

/-- The resync test made when a record leaves the queue (R139). -/
def resyncTest (s : State) : State :=
  if s.keys.loss && decide (s.keys.queue.length ≤ 8) then
    { s with keys.queue := s.keys.queue ++ [snapshotEvent true s], keys.loss := false }
  else s

/-- The payload of a KEY frame (R162). Bits 4 to 7 of its byte 3, which R162 does not name, are 0: DESIGN CHOICE, log entry 48. -/
def keyPayload (e : KeyEvent) : List Byte :=
  [byte e.kind.code,
   match e.kind with
   | .chord => byte (e.chord.getD 0)
   | .snapshot => 0xFF
   | _ => byte (e.position.getD 0),
   e.code,
   (if e.cold then 1 else 0) ||| (if e.stuck then 2 else 0) ||| (if e.resync then 4 else 0) ||| (if e.truncated then 8 else 0)]
  ++ be32 e.stamp.toNat ++ e.codes

/-- Whether the record at the head of the key event queue can be delivered now (R140, R84). -/
def keyDue (s : State) : Bool :=
  s.ctl.phase == .run && !s.keys.queue.isEmpty && decide (rankCount .key s < 4) && decide (s.link.up.length ≤ 10)

/-- The head record delivered in a KEY frame where there is room for it, and the resync test (R139, R140). -/
def deliverKey (s : State) : State :=
  match s.keys.queue with
  | [] => s
  | e :: rest =>
    if keyDue s then resyncTest (pushUp .key 0xE1 (keyPayload e) { s with keys.queue := rest }) else s

/-- Deliveries go on while there is room; the upstream queue has room for at most four KEY frames (R140). -/
def deliverKeys (s : State) : State := deliverKey (deliverKey (deliverKey (deliverKey s)))

/-- The three conditions of R150, and admission by R84. -/
def noticeDue (s : State) : Bool :=
  s.ctl.phase == .run && !(eligible s).isEmpty && !s.note.outstanding && decide (s.link.up.length ≤ 10)
    && decide (rankCount .notice s = 0)

/-- The code of the highest-priority eligible cause, 0 for none (R149). -/
def topCode (s : State) : Nat :=
  match eligible s with
  | [] => 0
  | c :: _ => c.code

/-- A NOTICE frame built and offered when the conditions of R150 hold. -/
def sendNotice (s : State) : State :=
  if noticeDue s then
    pushUp .notice 0xE0 [byte (topCode s), byte (eligible s).length] { s with note.outstanding := true }
  else s

/-- What follows at once when an event has raised a cause, made a key event or let a frame leave the upstream queue: the test of
R150 for its last raise, behind its reply, then the deliveries of R140. Where one event raises more than one cause, the test between them is made where
they are raised. The manual lets these be admitted in either order (R84): DESIGN CHOICE, log entry 6. -/
def settle (s : State) : State := deliverKeys (sendNotice s)

end Sys2Proof.Machine
end

