-- ==== Sys2Proof/Machine/Phases.lean ====
section
/-! DEFINITION. Entering a phase (R1, R2, R7, R11, R13, R17, R18, R21, R22, R89), what other blocks do at an entry, and LED (R24, R25). -/

namespace Sys2Proof.Machine

/-- Leaving RUN: the key event queue and loss flag are cleared (R139), a suspension ends (R115), the notice-outstanding flag
is cleared (R150). -/
def leaveRun (s : State) : State :=
  { s with keys.queue := [], keys.loss := false, sup.suspension := none, note.outstanding := false }

/-- The four acts of R2 at every entry, the timers of the phase left stopped, and leaving RUN where RUN is left. -/
def beginPhase (p : Phase) (s : State) : State :=
  let s := if s.ctl.phase = .run then leaveRun s else s
  { s with
    clock.timeInPhase := 0, clock.phaseAt := s.clock.now
    lines.moves := []
    ctl :=
      { s.ctl with
        phase := p
        warmUp := .stopped, stability := none, wait := none, supplyLoss := none, resetPulse := none, offTime := none
        ledFrom := if s.ctl.overlay.isSome then s.ctl.ledFrom else s.clock.now } }

/-- What an entry to a phase with PC_RST# asserted ends: the restart arm (R116) and the deadline (R112). -/
def stopSupervision (s : State) : State := { s with sup.arm := none, sup.deadline := .stopped }

/-- PC_RST# asserted, if it is not already (R16). -/
def assertReset (s : State) : State :=
  if s.lines.pcRst then s else { s with lines.pcRst := true, lines.moves := s.lines.moves ++ [.pcRstAsserted] }

/-- PWR_EN turned off, if it is on (R16). -/
def powerOff (s : State) : State :=
  if s.lines.pwrEn then { s with lines.pwrEn := false, lines.moves := s.lines.moves ++ [.pwrEnOff] } else s

/-- The supply loss filter at a phase entry: it starts there if PWRGOOD is already low (R14, R15). -/
def startSupplyFilter (s : State) : State :=
  { s with ctl.supplyLoss := if s.pins.pwrgood then none else some s.clock.now }

/-- The supply loss filter at the entry to RESTART. A low period goes on from there as a fresh measurement (R15); but a filter that has run its
50 ms at this very instant has its request still to arrive, and arrives in RESTART (R118). -/
def lossAtRestart (s : State) : Option Nat :=
  if s.pins.pwrgood then none
  else if hasRun s.ctl.supplyLoss (ms 50) s.clock.now then s.ctl.supplyLoss
  else some s.clock.now

/-- Entry to POWER_ON (R11): the allocation with the reserve, the lowered duties, then PWR_EN, then the timers of R12. -/
def enterPowerOn (s : State) : State :=
  let s := stopSupervision (beginPhase .powerOn s)
  let s := allocate true s
  { s with
    lines.pwrEn := true, lines.moves := [.dutiesLowered, .pwrEnOn]
    ctl.wait := some s.clock.now, ctl.stability := if s.pins.pwrgood then some s.clock.now else none }

/-- An entry to a phase with PWR_EN off, up to and with its allocation (R16, R60, R89). -/
def enterOff (p : Phase) (s : State) : State :=
  let s := powerOff (assertReset (stopSupervision (beginPhase p s)))
  allocate false (setUp [] s)

/-- Entry to PREHEAT (R7), and the soak-complete test made there (R8). -/
def enterPreheat (s : State) : State :=
  let s := enterOff .preheat s
  let s := { s with ctl.warmUp := .running (s.clock.now + s.cfg.sensing.warmUpLimit * sec 60) }
  if s.sens.gate.complete then enterPowerOn s else s

/-- Entry to BOOT (R13): PC_RST# released, the boot window started with the next heartbeat fresh (R112), the open record closed
(R122), the status part pointer at part 1 (R161), the supply loss filter watching (R14), and the C-port's RX low time measured from
here where RX is low already (R80). -/
def enterBoot (s : State) : State :=
  let s := beginPhase .boot s
  startSupplyFilter
    { s with
      lines.pcRst := false, lines.moves := [.pcRstReleased]
      sup.deadline := .bootWindow, sup.expiry := s.clock.now + sec s.cfg.watchdog.tBoot, sup.firstHeartbeat := true
      sup.openRecord := false
      link.rxFrom := s.clock.now
      note.statusPart2 := false }

/-- Entry to RUN (R13): a SNAPSHOT if a delivered key is down (R139), RESTART_RECORDED if records were added (R123). -/
def enterRun (s : State) : State :=
  let s := startSupplyFilter (beginPhase .run s)
  let s := if (downCodes s).isEmpty then s else { s with keys.queue := s.keys.queue ++ [snapshotEvent false s] }
  { raiseIf s.sup.addedSinceRun .restartRecorded s with sup.addedSinceRun := false }

/-- Entry to RESTART (R17): PC_RST# asserted with PWR_EN kept on, the reset pulse started, the supply loss filter watching (R15, R118). -/
def enterRestart (s : State) : State :=
  let loss := lossAtRestart s
  let s := assertReset (stopSupervision (beginPhase .restart s))
  setUp [] { s with ctl.resetPulse := some s.clock.now, ctl.supplyLoss := loss }

/-- Entry to POWER_CYCLE (R18). -/
def enterPowerCycle (s : State) : State :=
  let s := enterOff .powerCycle s
  { s with ctl.offTime := some s.clock.now }

/-- Entry to COOLDOWN with its origin set first (R16, R21). -/
def enterCooldown (s : State) : State :=
  enterOff .cooldown { s with ctl.originLockout := decide (s.ctl.phase = .lockout) }

/-- Entry to LOCKOUT (R22). -/
def enterLockout (s : State) : State := enterOff .lockout s

/-- An action of the restart supervisor carried out where the table of R16 allows it from the phase in force. -/
def carryOut (a : RestartAction) (s : State) : State :=
  match a with
  | .reset =>
    match s.ctl.phase with
    | .powerOn | .boot | .run => enterRestart s
    | .preheat | .restart | .powerCycle | .cooldown | .lockout => s
  | .powerCycle =>
    match s.ctl.phase with
    | .powerOn | .boot | .run | .restart => enterPowerCycle s
    | .preheat | .powerCycle | .cooldown | .lockout => s
  | .lockout =>
    match s.ctl.phase with
    | .powerOn | .boot | .run => enterLockout s
    | .preheat | .restart | .powerCycle | .cooldown | .lockout => s
  | .cooldown => if s.ctl.phase = .cooldown then s else enterCooldown s

/-- The COOLDOWN exit test made at each sample (R21). -/
def cooldownExit (s : State) : State :=
  if s.ctl.phase = .cooldown then
    match s.sens.effBoard with
    | none => s
    | some t =>
      if t ≤ s.cfg.sensing.tTrip - 40 then (if s.ctl.originLockout then enterLockout s else enterPreheat s) else s
  else s

/-- An overlay placed on LED for a chord firing (R25). -/
def showOverlay (o : Overlay) (s : State) : State := { s with ctl.overlay := some o, ctl.overlayFrom := s.clock.now }

/-- Whether the base pattern of a phase lights LED, `t` microseconds after its beginning (R24). -/
def basePattern (p : Phase) (t : Nat) : Bool :=
  match p with
  | .preheat => decide (t % 1000000 < 500000)
  | .powerOn | .boot => decide (t % 250000 < 125000)
  | .run => true
  | .restart | .powerCycle =>
    let u := t % 2000000
    decide (u < 100000) || (decide (200000 ≤ u) && decide (u < 300000))
  | .cooldown | .lockout =>
    let u := t % 2000000
    decide (u < 100000) || (decide (200000 ≤ u) && decide (u < 300000)) || (decide (400000 ≤ u) && decide (u < 500000))

/-- Whether LED is lit (R1, R24, R25): off while the part is below its range; off throughout the accepted overlay; eight flashes of
62.5 ms in the refused one; otherwise the base pattern. -/
def ledLit (s : State) : Bool :=
  s.powered &&
    match s.ctl.overlay with
    | some .accepted => false
    | some .refused => decide ((s.clock.now - s.ctl.overlayFrom) % 125000 < 62500)
    | none => basePattern s.ctl.phase (s.clock.now - s.ctl.ledFrom)

end Sys2Proof.Machine
end

