-- ==== Sys2Proof/Machine/Escalation.lean ====
section
/-! DEFINITION. The restart supervisor: requests taken or ignored (R118), the action chosen (R119), the record made (R121, R122), and
heartbeat offers judged (R109 to R111). -/

namespace Sys2Proof.Machine

/-- The counted causes (R121). -/
def isCounted : RestartCause → Bool
  | .bootTimeout | .heartbeatTimeout | .supplyFail | .supplyLoss => true
  | .commandedReset | .commandedCycle | .chordRestart | .overheat => false

/-- Whether a record takes part in the counting of R119: counted, stamped within the window, and after the floor. -/
def qualifies (s : State) (r : RestartRecord) : Bool :=
  isCounted r.cause && decide (s.clock.uptime ≤ r.uptime + s.cfg.watchdog.window * 60) && decide (s.sup.floor < r.uptime)

/-- How many qualifying records of the history have an action (R119). -/
def countActions (a : RestartAction) (s : State) : Nat := s.sup.history.countP fun r => qualifies s r && r.action == a

/-- The two counting steps of R119 for a counted cause. -/
def escalated (s : State) : RestartAction :=
  if countActions .reset s + 1 < s.cfg.watchdog.k then .reset
  else if countActions .powerCycle s + 1 < s.cfg.watchdog.m then .powerCycle
  else .lockout

/-- The action for a request, by R119. -/
def chooseAction (c : RestartCause) (s : State) : RestartAction :=
  match c with
  | .commandedReset => .reset
  | .commandedCycle => .powerCycle
  | .chordRestart => .reset
  | .overheat => .cooldown
  | .supplyLoss => if s.ctl.phase = .restart then .powerCycle else escalated s
  | .bootTimeout | .heartbeatTimeout | .supplyFail => escalated s

/-- Whether a request is taken, by the phase in force when it arrives (R118). -/
def takesRequest (c : RestartCause) (p : Phase) : Bool :=
  match p with
  | .preheat | .powerCycle | .cooldown | .lockout => c == .overheat
  | .restart => c != .chordRestart
  | .powerOn | .boot | .run => true

/-- A record joins the ring of eight, and becomes the open record (R121, R122, R123). -/
def addRecord (r : RestartRecord) (s : State) : State :=
  let h := s.sup.history ++ [r]
  { s with
    sup.history := if 8 < h.length then h.drop (h.length - 8) else h
    sup.openRecord := true, sup.addedSinceRun := true }

/-- The record of a request (R121). One made in stage 5 of a sample carries the effective BOARD of that sample: log entry 33. -/
def recordOf (c : RestartCause) (a : RestartAction) (s : State) : RestartRecord :=
  { cause := c, action := a, phaseLeft := s.ctl.phase, cabinet := s.clock.cabinet, uptime := s.clock.uptime,
    board := s.sens.effBoard, staleCount := s.sup.staleCount, lateCount := 0 }

/-- A restart request (R118): ignored without trace, or chosen, recorded and carried out in that order. -/
def request (c : RestartCause) (s : State) : State :=
  if takesRequest c s.ctl.phase then
    let a := chooseAction c s
    carryOut a (addRecord (recordOf c a s) s)
  else s

/-- A good C-port frame discarded in reset, reported to the open record (R82, R122). -/
def reportLate (s : State) : State :=
  if s.sup.openRecord then
    match s.sup.history.getLast? with
    | none => s
    | some r => { s with sup.history := s.sup.history.dropLast ++ [{ r with lateCount := inc8 r.lateCount }] }
  else s

/-- A source of heartbeats (R109): the PULSE command, or a HEARTBEAT entry by its index. -/
inductive HeartbeatSource where
  | pulse
  | entry (index : Nat)
  deriving DecidableEq, Repr

/-- The last token seen from a source. -/
def tokenOf (src : HeartbeatSource) (s : State) : Option Byte :=
  match src with
  | .pulse => s.sup.pulseToken
  | .entry i => s.sup.entryTokens.getD i none

/-- The memory of a source set to a token. -/
def setToken (src : HeartbeatSource) (t : Option Byte) (s : State) : State :=
  match src with
  | .pulse => { s with sup.pulseToken := t }
  | .entry i => { s with sup.entryTokens := s.sup.entryTokens.set i t }

/-- The judgement of an offer in BOOT or RUN, by the first case of R110 that applies. -/
def isFresh (src : HeartbeatSource) (token : Option Byte) (s : State) : Bool :=
  s.sup.firstHeartbeat || !s.cfg.watchdog.tokenCheck || (token.isSome && token != tokenOf src s)

/-- A fresh offer acts by the deadline's state (R111). -/
def acceptHeartbeat (s : State) : State :=
  let s := { s with sup.staleCount := 0 }
  let next := s.clock.now + sec s.cfg.watchdog.tHb
  match s.sup.deadline with
  | .bootWindow => enterRun { s with sup.firstHeartbeat := false, sup.deadline := .heartbeat, sup.expiry := next }
  | .heartbeat => { s with sup.expiry := next }
  | .suspended | .stopped => s

/-- A heartbeat offered (R109 to R111). The answer beside the state is the judgement: none where the phase allows none. -/
def offerHeartbeat (src : HeartbeatSource) (token : Option Byte) (s : State) : State × Option Bool :=
  if releasedPhase s.ctl.phase then
    let fresh := isFresh src token s
    let s := if token.isSome then setToken src token s else s
    if fresh then (acceptHeartbeat s, some true)
    else ({ s with sup.staleCount := inc8 s.sup.staleCount }, some false)
  else (s, none)

/-- A chord firing taken, by its action and the phase then in force (R10, R23, R118, R136), with the overlay R25 gives it. -/
def handOn (a : ChordAction) (s : State) : State :=
  match a with
  | .requestRestart =>
    if takesRequest .chordRestart s.ctl.phase then showOverlay .accepted (request .chordRestart s)
    else showOverlay .refused s
  | .skipWarmup =>
    if s.ctl.phase = .preheat then
      match s.sens.effBoard with
      | none => showOverlay .refused s
      | some t =>
        if s.cfg.sensing.tAbsMin ≤ t then showOverlay .accepted (enterPowerOn s) else showOverlay .refused s
    else showOverlay .refused s
  | .clearLockout =>
    let s := { s with sup.floor := s.clock.uptime }
    match s.ctl.phase with
    | .lockout => showOverlay .accepted (enterPreheat s)
    | .cooldown => showOverlay .accepted { s with ctl.originLockout := false }
    | .preheat | .powerOn | .boot | .run | .restart | .powerCycle => showOverlay .accepted s
  | .report => showOverlay .accepted s

/-- The first `n` of the firings that wait taken, in the order they were handed on (R136). -/
def takeFirings : Nat → State → State
  | 0, s => s
  | n + 1, s =>
    match s.ctl.firings with
    | [] => s
    | a :: rest => takeFirings n (handOn a { s with ctl.firings := rest })

/-- Every firing that waits taken. -/
def takeAllFirings (s : State) : State := takeFirings s.ctl.firings.length s

/-- Firings handed on: they join those that wait, and a free number of them is taken at once (R10, R23, R136; log entry 32). -/
def handFirings (l : List ChordAction) (s : State) : State :=
  if l.isEmpty then s
  else
    takeFirings (Config.firingsTaken s.draw)
      { s with ctl.firings := s.ctl.firings ++ l, draw := s.draw + 1 }

end Sys2Proof.Machine
end

