-- ==== Sys2Proof/Machine/PassTable.lean ====
section
/-! DEFINITION. The pass table: matching (R93, R94), the five actions and the defaults (R95 to R100), and answers (R101). -/

namespace Sys2Proof.Machine

/-- Whether an entry fits a frame (R93). -/
def fits (d : PassDef) (dir : Direction) (f : Frame) (phase : Phase) : Bool :=
  d.active && d.direction == dir
    && (d.nodeAny || d.node == (match dir with | .down => f.dst | .up => f.src))
    && (f.cls &&& d.clsMask) == d.clsValue
    && (!d.selectorPresent || (match f.payload with | [] => false | b :: _ => b == d.selector))
    && inPhaseSet d.phases phase

/-- The index of the first entry that fits (R94). -/
def firstFit (l : List PassDef) (dir : Direction) (f : Frame) (phase : Phase) : Option Nat :=
  l.findIdx? fun d => fits d dir f phase

/-- An entry's counts changed. -/
def onCounts (i : Nat) (f : EntryCounts → EntryCounts) (s : State) : State :=
  match s.pass[i]? with
  | none => s
  | some c => { s with pass := s.pass.set i (f c) }

/-- A hit: the count and the stamp (R94). -/
def countHit (i : Nat) (s : State) : State :=
  onCounts i (fun c => { c with hits := inc16 c.hits, lastHit := some s.clock.cabinet }) s

/-- The special count of an entry goes up by one (R107). -/
def countSpecial (i : Nat) (s : State) : State := onCounts i (fun c => { c with special := inc16 c.special }) s

/-- The special count of an entry goes up by one when a condition holds. -/
def countSpecialIf (b : Bool) (i : Nat) (s : State) : State := if b then countSpecial i s else s

/-- FORWARD, unaltered toward the destination port (R96); an UP frame is discarded while PC_RST# is asserted (R89). -/
def forward (dir : Direction) (f : Frame) (s : State) : State :=
  match dir with
  | .down => (offerDown true { frame := f, mark := .unmarked } s).1
  | .up => if s.lines.pcRst then s else (offerForwarded true f s).1

/-! ## Answers (R101) -/

/-- Soak remaining (R37): FFFFh while the gate is not satisfied, 0 once the soak is complete, else the seconds left, rounded up. -/
def soakRemaining (s : State) : Nat :=
  if !s.sens.gate.satisfied then 65535
  else if s.sens.gate.complete then 0
  else (s.sens.gate.span * 1000 - s.sens.gate.soakMs + 999) / 1000

/-- A list with bytes written over it from a position. -/
def writeAt (l : List Byte) (i : Nat) (bytes : List Byte) : List Byte :=
  match bytes with
  | [] => l
  | b :: rest => writeAt (l.set i b) (i + 1) rest

/-- A live field written where it is present. -/
def writeLive (offset : Byte) (bytes l : List Byte) : List Byte := if offset = 0xFF then l else writeAt l offset.toNat bytes

/-- The payload of an answer: the template with its live fields (R101). -/
def answerPayload (a : Answer) (s : State) : List Byte :=
  writeLive a.soakOffset (be16 (soakRemaining s))
    (writeLive a.boardOffset (tempBytes s.sens.effBoard) (writeLive a.phaseOffset [byte s.ctl.phase.code] a.template))

/-- The answer record of an index (R101). -/
def answerRecord (i : Nat) (s : State) : Answer :=
  s.cfg.answers.getD i { cls := 0, phaseOffset := 0xFF, boardOffset := 0xFF, soakOffset := 0xFF, template := [] }

/-- The answer frame for a request (R100, R101). -/
def answerFrame (i : Nat) (request : Frame) (s : State) : Frame :=
  let a := answerRecord i s
  mkFrame request.src (if request.dst = allNodes then ownNode else request.dst) a.cls (answerPayload a s)

/-- ANSWER (R100): the request consumed, the answer offered back toward the requester, a refusal counted. -/
def answer (entry index : Nat) (dir : Direction) (f : Frame) (s : State) : State :=
  let g := answerFrame index f s
  let r :=
    match dir with
    | .up => offerDown false { frame := g, mark := .unmarked } s
    | .down => offerForwarded false g s
  countSpecialIf (!r.2) entry r.1

/-! ## Actions -/

/-- The token an offer carries (R98): the payload byte at the entry's token offset, where the payload holds it. -/
def offerToken (d : PassDef) (f : Frame) : Option Byte := if d.tokenOffset = 0xFF then none else f.payload[d.tokenOffset.toNat]?

/-- HEARTBEAT (R98): the offer, its stale judgement counted, the test of R150 for an entry to RUN and its RESTART_RECORDED, and the forwarding if the
entry says so. That the test comes before the forwarding is a DESIGN CHOICE, log entry 6. -/
def heartbeatAction (i : Nat) (d : PassDef) (f : Frame) (s : State) : State :=
  let r := offerHeartbeat (.entry i) (offerToken d f) s
  let s := sendNotice (countSpecialIf (r.2 == some false) i r.1)
  if d.forward then forward .down f s else s

/-- CLAMP_LEVEL (R99): the backlight record, with a clamp counted; a frame too short for the offset dropped and counted. -/
def clampAction (i : Nat) (d : PassDef) (f : Frame) (s : State) : State :=
  if d.levelOffset.toNat < f.payload.length then
    let r := computerLevel f d.levelOffset.toNat s
    countSpecialIf r.2 i r.1
  else countSpecial i s

/-- The action of the entry that takes a frame (R94). HEARTBEAT and CLAMP_LEVEL are taken on DOWN frames only (R98, R99, R103). -/
def performAction (i : Nat) (d : PassDef) (dir : Direction) (f : Frame) (s : State) : State :=
  match d.action with
  | .forward => forward dir f s
  | .drop => s
  | .answer => answer i d.answerIndex.toNat dir f s
  | .heartbeat =>
    match dir with
    | .down => heartbeatAction i d f s
    | .up => s
  | .clampLevel =>
    match dir with
    | .down => clampAction i d f s
    | .up => s

/-- The default action of a direction (R95). -/
def defaultAction (dir : Direction) (s : State) : DefaultAction :=
  match dir with
  | .down => s.cfg.defaultDown
  | .up => s.cfg.defaultUp

/-- A frame handed to the pass table: matched, counted and acted on as one event (R92, R94, R95). -/
def passFrame (dir : Direction) (f : Frame) (s : State) : State :=
  match firstFit s.cfg.pass dir f s.ctl.phase with
  | some i => performAction i (s.cfg.pass.getD i PassDef.factory) dir f (countHit i s)
  | none =>
    match defaultAction dir s with
    | .forward => forward dir f s
    | .drop => s

end Sys2Proof.Machine
end

