-- ==== Sys2Proof/Machine/Operands.lean ====
section
/-! DEFINITION. Operand forms: what the command processor reads from a payload (R159, R160, R163), the ranges it clamps to
(R38, R44, R57, R120, R134, R141), and the records it writes back (R160 to R163). -/

namespace Sys2Proof.Machine

/-! ## Result codes (R144) -/

/-- The result codes of R144. -/
inductive Result where
  | ok
  | clamped
  | accepted
  | busy
  | badLength
  | badIndex
  | badValue
  | wrongPhase
  | notArmed
  | conflict
  | unknown
  deriving DecidableEq, Repr

def Result.code : Result → Byte
  | .ok => 0x00
  | .clamped => 0x01
  | .accepted => 0x02
  | .busy => 0x10
  | .badLength => 0x11
  | .badIndex => 0x12
  | .badValue => 0x13
  | .wrongPhase => 0x14
  | .notArmed => 0x15
  | .conflict => 0x16
  | .unknown => 0x17

/-- OK, or CLAMPED when a value was (R144). -/
def clampedIf (b : Bool) : Result := if b then .clamped else .ok

/-! ## Ranges -/

/-- A quantity clamped to the nearer end of its range (R144). -/
def clampN (lo hi n : Nat) : Nat := max lo (min hi n)

/-- A signed quantity clamped to the nearer end of its range (R144). -/
def clampI (lo hi n : Int) : Int := max lo (min hi n)

/-- T_stuck's two-part range: 0, or 5 to 600 s; 1 to 4 s becomes 5 s (R141). -/
def clampStuck (n : Nat) : Nat := if n = 0 then 0 else clampN 5 600 n

/-- Tfull after its own clamp: at or below Ton it becomes Ton + 8 q (R44, R145). That its range is applied before it is held against Ton, so that a
Tfull below its range comes into force as 48 q where Ton is below that, is DESIGN CHOICE: log entry 38. -/
def clampFull (tOn tFull : Int) : Int :=
  let t := clampI 48 480 tFull
  if t ≤ tOn then tOn + 8 else t

/-- SET_THERMAL group 1 as a payload carries it (R160). A mask holds the bits of its channel's flags (R51). -/
def readChannels (p : List Byte) : ThermalChannels where
  h0Run := s16At p 1
  h0Preheat := s16At p 3
  h1Run := s16At p 5
  h1Preheat := s16At p 7
  pb0 := s16At p 9
  pb1 := s16At p 11
  tOn := s16At p 13
  tFull := s16At p 15
  mask0 := BitVec.ofNat 3 (u8At p 17)
  mask1 := BitVec.ofNat 3 (u8At p 18)
  maskF := BitVec.ofNat 3 (u8At p 19 % 4)

/-- Group 1 clamped (R44, R57). -/
def clampChannels (t : ThermalChannels) : ThermalChannels :=
  { t with
    h0Run := clampI (-120) 200 t.h0Run
    h0Preheat := clampI (-120) 200 t.h0Preheat
    h1Run := clampI (-120) 200 t.h1Run
    h1Preheat := clampI (-120) 200 t.h1Preheat
    pb0 := clampI 4 400 t.pb0
    pb1 := clampI 4 400 t.pb1
    tOn := clampI 40 400 t.tOn
    tFull := clampFull (clampI 40 400 t.tOn) t.tFull }

/-- Group 1 as a reply carries it (R160). -/
def writeChannels (t : ThermalChannels) : List Byte :=
  1 :: beInt t.h0Run ++ beInt t.h0Preheat ++ beInt t.h1Run ++ beInt t.h1Preheat ++ beInt t.pb0 ++ beInt t.pb1
    ++ beInt t.tOn ++ beInt t.tFull ++ [byte t.mask0.toNat, byte t.mask1.toNat, byte t.maskF.toNat]

/-- SET_THERMAL group 2 as a payload carries it (R160), its policy read beforehand. -/
def readSensing (p : List Byte) (policy : WarmUpPolicy) : ThermalSensing where
  trimAir := s8At p 1
  trimDisplay := s8At p 2
  trimBoard := s8At p 3
  gBoard := s16At p 4
  gDisp := s16At p 6
  tSoak := u16At p 8
  warmUpLimit := u8At p 10
  policy := policy
  tAbsMin := s16At p 12
  tWarn := s16At p 14
  tTrip := s16At p 16
  deltaMax := s16At p 18

/-- Group 2 clamped (R7, R10, R19, R38, chapter 3.8). -/
def clampSensing (t : ThermalSensing) : ThermalSensing :=
  { t with
    trimAir := clampI (-32) 31 t.trimAir
    trimDisplay := clampI (-32) 31 t.trimDisplay
    trimBoard := clampI (-32) 31 t.trimBoard
    gBoard := clampI (-200) 100 t.gBoard
    gDisp := clampI (-200) 100 t.gDisp
    tSoak := clampN 10 600 t.tSoak
    warmUpLimit := clampN 1 240 t.warmUpLimit
    tAbsMin := clampI (-220) 0 t.tAbsMin
    tWarn := clampI 120 480 t.tWarn
    tTrip := clampI 200 480 t.tTrip
    deltaMax := clampI 40 200 t.deltaMax }

/-- Group 2 as a reply carries it (R160). -/
def writeSensing (t : ThermalSensing) : List Byte :=
  2 :: [byte (t.trimAir % 256).toNat, byte (t.trimDisplay % 256).toNat, byte (t.trimBoard % 256).toNat]
    ++ beInt t.gBoard ++ beInt t.gDisp ++ be16 t.tSoak ++ [byte t.warmUpLimit, byte t.policy.code]
    ++ beInt t.tAbsMin ++ beInt t.tWarn ++ beInt t.tTrip ++ beInt t.deltaMax

/-- SET_BUDGET's parameters (R160); none is clamped (R59). -/
def readBudget (p : List Byte) : BudgetParams where
  bTot := u8At p 0
  rc := u8At p 1
  p0 := u8At p 2
  p1 := u8At p 3
  pFan := u8At p 4
  pBl := u8At p 5
  lInit := u8At p 6
  lCap := u8At p 7

def writeBudget (b : BudgetParams) : List Byte :=
  [byte b.bTot, byte b.rc, byte b.p0, byte b.p1, byte b.pFan, byte b.pBl, byte b.lInit, byte b.lCap]

/-- SET_KEYPAD's parameters (R160). -/
def readKeypad (p : List Byte) : KeypadParams where
  tPress := u8At p 0
  tRel := u8At p 1
  tCold := s16At p 2
  kCold := u8At p 4
  tStuck := u16At p 5
  repeatDelay := u16At p 7
  repeatPeriod := u16At p 9

/-- The keypad parameters clamped (R141). -/
def clampKeypad (k : KeypadParams) : KeypadParams where
  tPress := clampN 5 100 k.tPress
  tRel := clampN 5 100 k.tRel
  tCold := clampI (-200) 100 k.tCold
  kCold := clampN 0 10 k.kCold
  tStuck := clampStuck k.tStuck
  repeatDelay := clampN 100 2000 k.repeatDelay
  repeatPeriod := clampN 20 1000 k.repeatPeriod

def writeKeypad (k : KeypadParams) : List Byte :=
  [byte k.tPress, byte k.tRel] ++ beInt k.tCold ++ [byte k.kCold] ++ be16 k.tStuck ++ be16 k.repeatDelay ++ be16 k.repeatPeriod

/-- SET_WATCHDOG's parameters (R160), token checking read beforehand. -/
def readWatchdog (p : List Byte) (tokenCheck : Bool) : WatchdogParams where
  tBoot := u16At p 0
  tHb := u16At p 2
  tokenCheck := tokenCheck
  window := u8At p 5
  k := u8At p 6
  m := u8At p 7

/-- The watchdog parameters clamped (R120). -/
def clampWatchdog (w : WatchdogParams) : WatchdogParams :=
  { w with
    tBoot := clampN 10 1800 w.tBoot
    tHb := clampN 1 600 w.tHb
    window := clampN 1 240 w.window
    k := clampN 1 4 w.k
    m := clampN 1 4 w.m }

def writeWatchdog (w : WatchdogParams) : List Byte :=
  be16 w.tBoot ++ be16 w.tHb ++ [flagByte w.tokenCheck, byte w.window, byte w.k, byte w.m]

/-! ## Pass entries and answer records (R163) -/

/-- The definition at position 1 of a SET_PASS_ENTRY payload, with its three choice bytes read beforehand. A flag byte is held as set or
clear also where the action does not use it, so that GET_PASS_ENTRY returns 01h for a written 02h to FFh: DESIGN CHOICE, log entry 35. -/
def readPassDef (p : List Byte) (active : Bool) (dir : Direction) (act : PassAction) : PassDef where
  active := active
  direction := dir
  action := act
  nodeAny := flagAt p 4
  node := p.getD 5 0
  clsValue := p.getD 6 0
  clsMask := p.getD 7 0
  selectorPresent := flagAt p 8
  selector := p.getD 9 0
  phases := p.getD 10 0
  tokenOffset := p.getD 11 0
  forward := flagAt p 12
  levelOffset := p.getD 13 0
  answerIndex := p.getD 14 0

def writePassDef (d : PassDef) : List Byte :=
  [flagByte d.active, byte d.direction.code, byte d.action.code, flagByte d.nodeAny, d.node, d.clsValue, d.clsMask,
   flagByte d.selectorPresent, d.selector, d.phases, d.tokenOffset, flagByte d.forward, d.levelOffset, d.answerIndex]

/-- The record of a SET_ANSWER payload. -/
def readAnswer (p : List Byte) : Answer where
  cls := p.getD 1 0
  phaseOffset := p.getD 2 0
  boardOffset := p.getD 3 0
  soakOffset := p.getD 4 0
  template := p.drop 6

def writeAnswer (index : Byte) (a : Answer) : List Byte :=
  [index, a.cls, a.phaseOffset, a.boardOffset, a.soakOffset, byte a.template.length] ++ a.template

/-- The bytes a live field covers: none where it is absent (R102). -/
def liveBytes (offset : Byte) (width : Nat) : List Nat := if offset = 0xFF then [] else (List.range width).map (offset.toNat + ·)

/-- The bytes all live fields of a record cover. -/
def allLiveBytes (a : Answer) : List Nat := liveBytes a.phaseOffset 1 ++ liveBytes a.boardOffset 2 ++ liveBytes a.soakOffset 2

/-- Each present live field lies wholly inside the payload, and no two share a byte (R102). -/
def liveFieldsFit (a : Answer) : Bool :=
  (allLiveBytes a).all (fun i => decide (i < a.template.length)) && decide (allLiveBytes a).Nodup

/-! ## Chords and keymap (R133, R134, R160) -/

/-- The members of a chord in use. -/
def ChordDef.members (d : ChordDef) : List Nat := ([d.m0, d.m1, d.m2].take d.count).map BitVec.toNat

/-- The definition of a SET_CHORD payload, its action read beforehand. -/
def readChord (p : List Byte) (act : ChordAction) : ChordDef where
  count := u8At p 1
  m0 := p.getD 2 0
  m1 := p.getD 3 0
  m2 := p.getD 4 0
  holdMs := u16At p 5
  action := act
  phases := p.getD 8 0

/-- A chord's hold time clamped (R134), also where the chord has no members and the hold time no effect: DESIGN CHOICE, log entry 35. -/
def clampChord (d : ChordDef) : ChordDef := { d with holdMs := clampN 500 10000 d.holdMs }

def writeChord (d : ChordDef) : List Byte := [byte d.count, d.m0, d.m1, d.m2] ++ be16 d.holdMs ++ [byte d.action.code, d.phases]

/-- The keymap entry at place `i` of a SET_KEYMAP payload: its code byte, and its bit of each map, counted from bit 0 of the low
byte (R160). -/
def readKeymapEntry (p : List Byte) (i : Nat) : KeymapEntry where
  code := p.getD (6 + i) 0
  repeats := (u16At p 2).testBit i
  deliver := (u16At p 4).testBit i

/-- A keymap entry as the image holds it: code, repeat flag, deliver flag, a byte each, and no bit maps as SET_KEYMAP carries them. R152 gives the
image no byte layout: DESIGN CHOICE, log entry 8. -/
def writeKeymapEntry (k : KeymapEntry) : List Byte := [k.code, flagByte k.repeats, flagByte k.deliver]

/-! ## History and the image (R152, R162) -/

/-- A history record of 14 bytes (R162). -/
def writeRecord (r : RestartRecord) : List Byte :=
  [byte r.cause.code, byte (r.action.code * 16 + r.phaseLeft.code)] ++ be32 r.cabinet.toNat ++ be32 r.uptime
    ++ tempBytes r.board ++ [byte r.staleCount, byte r.lateCount]

/-- An answer record as the image holds it: its template filled up with 00h to the 16 bytes it may have, so that every image of this part has
one length. DESIGN CHOICE, log entry 8. -/
def imageAnswer (index : Byte) (a : Answer) : List Byte :=
  writeAnswer index a ++ List.replicate (16 - a.template.length) 0

/-- The setting bytes of the image in the order of R152, each setting laid out as its command or its reply carries it, but for the answer templates
(`imageAnswer`) and the keymap entries (`writeKeymapEntry`). DESIGN CHOICE: the manual gives the image no byte layout; log entry 8. -/
def settingsBytes (c : Settings) : List Byte :=
  c.pass.flatMap writePassDef
    ++ (c.answers.zipIdx.flatMap fun ai => imageAnswer (byte ai.2) ai.1)
    ++ [byte c.defaultDown.code, byte c.defaultUp.code]
    ++ c.keymap.flatMap writeKeymapEntry ++ c.chords.flatMap writeChord ++ writeKeypad c.keypad
    ++ writeChannels c.channels ++ writeSensing c.sensing ++ writeBudget c.budget ++ writeWatchdog c.watchdog
    ++ be16 c.enables.toNat

/-- The bytes the image check covers: the format number, the length and every setting byte (R152). -/
def imageCovered (format length : Word16) (c : Settings) : List Byte :=
  be16 format.toNat ++ be16 length.toNat ++ settingsBytes c

/-- The image check: the CRC of R77 over the covered bytes (R152). -/
def imageCheck (format length : Word16) (c : Settings) : Word16 := crc16 (imageCovered format length c)

/-- An image byte by byte as it stands in the area (R152). -/
def Image.bytes (i : Image) : List Byte := imageCovered i.format i.length i.settings ++ [i.checkFirst, i.checkSecond]

/-- The image of a capture: this part's format number and length, and the check freshly computed and stored high byte first (R152,
R155). -/
def imageOf (c : Settings) : Image :=
  let check := be16 (imageCheck Config.imageFormat Config.imageLength c).toNat
  { format := Config.imageFormat, length := Config.imageLength, settings := c,
    checkFirst := check.getD 0 0, checkSecond := check.getD 1 0 }

/-- Whether an image is good (R152): this part's format and length, and a stored check, read high byte first, that is the one computed over
it. -/
def goodImage (i : Image) : Bool :=
  i.format == Config.imageFormat && i.length == Config.imageLength
    && [i.checkFirst, i.checkSecond] == be16 (imageCheck i.format i.length i.settings).toNat

/-- The settings of the image area when it holds a good image (R153). -/
def goodSettings : Option Image → Option Settings
  | none => none
  | some i => if goodImage i then some i.settings else none

end Sys2Proof.Machine
end

