-- ==== Sys2Proof/Machine/Scanner.lean ====
section
/-! DEFINITION. The keypad scanner: the ghost test (R126), debounce (R127, R128) and its times in the cold (R129), stuck keys (R130),
auto-repeat (R131), the keymap (R132), and chords (R135, R136). -/

namespace Sys2Proof.Machine

/-! ## The ghost test -/

/-- Whether a position reads closed in a reading of the matrix. -/
def isClosed (m : Matrix) (drive sense : Nat) : Bool := m.getLsbD (drive * 8 + sense)

/-- How many of the four corners of a rectangle read closed. -/
def closedCorners (m : Matrix) (a b s t : Nat) : Nat :=
  (isClosed m a s).toNat + (isClosed m a t).toNat + (isClosed m b s).toNat + (isClosed m b t).toNat

/-- Whether some rectangle with the position at a corner has three or more corners closed (R126). -/
def isAmbiguous (m : Matrix) (p : Nat) : Bool :=
  let a := p / 8
  let s := p % 8
  (List.range 6).any fun b => b != a && (List.range 8).any fun t => t != s && decide (3 ≤ closedCorners m a b s t)

/-! ## Debounce times -/

/-- The cold extension in milliseconds; none where effective DISPLAY is "none" and the times go to their maximum (R129). -/
def coldExtension (k : KeypadParams) (display : Option Int) : Option Nat :=
  display.map fun t => k.kCold * (max 0 (Int.tdiv (k.tCold - t) 4)).toNat

/-- An effective time (R129). -/
def effectiveTime (base : Nat) (ext : Option Nat) : Nat :=
  match ext with
  | none => 120
  | some e => min 120 (base + e)

/-- Whether the extension in force is not 0 (R129). -/
def isCold (ext : Option Nat) : Bool := ext != some 0

/-- The cold extension in force now. -/
def extensionOf (s : State) : Option Nat := coldExtension s.cfg.keypad s.sens.effDisplay

/-- Tpress_eff now (R129). -/
def pressEff (s : State) : Nat := effectiveTime s.cfg.keypad.tPress (extensionOf s)

/-- Trel_eff now (R129). -/
def relEff (s : State) : Nat := effectiveTime s.cfg.keypad.tRel (extensionOf s)

/-! ## Keys -/

/-- What a key made at a pass: the kind, the stuck flag, and the delivering flag its event is offered with. -/
structure Made where
  kind : KeyKind
  stuck : Bool
  delivering : Bool
  deriving DecidableEq, Repr

/-- PRESS (R127, R132). -/
def pressKey (ent : KeymapEntry) (k : Key) : Key × Option Made :=
  ({ k with state := .down, pending := 0, held := 0, repeatTime := 0, repeats := 0, delivering := ent.deliver, repeating := ent.repeats },
   some { kind := .press, stuck := false, delivering := ent.deliver })

/-- RELEASE (R128). -/
def releaseKey (k : Key) : Key × Option Made :=
  ({ k with state := .up, pending := 0, held := 0, repeatTime := 0, repeats := 0, delivering := false, repeating := false },
   some { kind := .release, stuck := false, delivering := k.delivering })

/-- STUCK (R130). The held time and the repeating flag, which R130 does not name among what it sets or clears, stay as they stand until the next
PRESS: DESIGN CHOICE, log entry 46. -/
def stickKey (k : Key) : Key × Option Made :=
  ({ k with state := .stuck, pending := 0, repeatTime := 0, repeats := 0, delivering := false },
   some { kind := .release, stuck := true, delivering := k.delivering })

/-- A key back in UP without an event (R127, R130, R133). -/
def restKey (k : Key) : Key := { k with state := .up, pending := 0 }

/-- REPEAT (R131). -/
def repeatKey (k : Key) : Key × Option Made :=
  ({ k with repeatTime := 0, repeats := k.repeats + 1 }, some { kind := .repeated, stuck := false, delivering := k.delivering })

/-- The held time after one more pass; the field runs to 600 s (chapter 8, R128). -/
def runHeld (held : Nat) : Nat := min 600000 (held + 5)

/-- Whether the held time of a pass reaches T_stuck (R130); 0 turns the judgement off. -/
def reachesStuck (kp : KeypadParams) (held : Nat) : Bool := decide (kp.tStuck ≠ 0) && decide (kp.tStuck * 1000 ≤ held)

/-- The repeat time at which the next REPEAT falls due (R131). -/
def repeatDue (kp : KeypadParams) (k : Key) : Nat := if k.repeats = 0 then kp.repeatDelay else kp.repeatPeriod

/-- A key in DOWN or RELEASE_PENDING whose held time has run through the pass and does not reach T_stuck (R128, R131). The pass at which a
RELEASE_PENDING key reads closed and returns to DOWN adds nothing to its repeat time: DESIGN CHOICE, log entry 47. -/
def heldKey (kp : KeypadParams) (rel : Nat) (closed : Bool) (k : Key) : Key × Option Made :=
  if k.state = .down then
    if !closed then ({ k with state := .releasePending, pending := 0 }, none)
    else if !k.repeating then (k, none)
    else
      let k := { k with repeatTime := k.repeatTime + 5 }
      if repeatDue kp k ≤ k.repeatTime then repeatKey k else (k, none)
  else if closed then ({ k with state := .down, pending := 0 }, none)
  else
    let k := { k with pending := k.pending + 5 }
    if rel ≤ k.pending then releaseKey k else (k, none)

/-- One key at one pass, when it is neither ambiguous nor of code 0 (R127, R128, R130, R131). The stuck judgement is made before the
raw value acts; log entry 13. -/
def stepKey (ent : KeymapEntry) (kp : KeypadParams) (press rel : Nat) (closed : Bool) (k : Key) : Key × Option Made :=
  match k.state with
  | .up => (if closed then { k with state := .pressPending, pending := 0 } else k, none)
  | .pressPending =>
    if !closed then (restKey k, none)
    else
      let k := { k with pending := k.pending + 5 }
      if press ≤ k.pending then pressKey ent k else (k, none)
  | .down | .releasePending =>
    let k := { k with held := runHeld k.held }
    if reachesStuck kp k.held then stickKey k else heldKey kp rel closed k
  | .stuck =>
    if closed then ({ k with pending := 0 }, none)
    else
      let k := { k with pending := k.pending + 5 }
      (if rel ≤ k.pending then restKey k else k, none)

/-- One key at one pass: an ambiguous position is held as it stands (R126), and a position of code 0 rests in UP (R132). -/
def passKey (ent : KeymapEntry) (kp : KeypadParams) (press rel : Nat) (closed ambiguous : Bool) (k : Key) : Key × Option Made :=
  let k := { k with raw := closed, ambiguous := ambiguous }
  if ambiguous then (k, none)
  else if ent.code = 0 then (restKey k, none)
  else stepKey ent kp press rel closed k

/-- A keymap entry, unused where there is none. -/
def keymapAt (l : List KeymapEntry) (p : Nat) : KeymapEntry := l.getD p { code := 0, repeats := false, deliver := false }

/-- The event record of a key's event (R137); the cold flag from the press side, or for a RELEASE from the release side (R129). -/
def keyEvent (p : Nat) (code : Byte) (m : Made) (coldPress coldRel : Bool) (stamp : Word32) : KeyEvent where
  kind := m.kind
  position := some p
  code := code
  chord := none
  cold := if m.kind = .release then coldRel else coldPress
  stuck := m.stuck
  resync := false
  truncated := false
  stamp := stamp
  codes := []

/-- An event a key has made, offered to the queue (R138), with the two sides' cold flags at its making (R129). -/
def offerMade (p : Nat) (code : Byte) (m : Option Made) (coldPress coldRel : Bool) (s : State) : State :=
  match m with
  | none => s
  | some m => admitEvent m.delivering (keyEvent p code m coldPress coldRel s.clock.cabinet) s

/-- The cold flag of an event made now: whether the extension in force is not 0, on either side alike (R129). -/
def coldNow (s : State) : Bool := isCold (extensionOf s)

/-! ## Chords -/

/-- Whether a key's state, by position, is down. -/
def downAt (keys : List Key) (p : Nat) : Bool :=
  match keys[p]? with
  | none => false
  | some k => k.isDown

/-- Whether a key's state, by position, is UP. -/
def upAt (keys : List Key) (p : Nat) : Bool :=
  match keys[p]? with
  | none => false
  | some k => k.state == .up

/-- Whether a chord is held (R135): every member down, and no other position. -/
def isHeld (keys : List Key) (d : ChordDef) : Bool :=
  d.members.all (downAt keys) && (List.range keys.length).all fun p => d.members.contains p || !downAt keys p

/-- A chord at one pass (R135), and whether it fires (R136). `inSet` says that the phase in force is in its set. At the firing the SPENT chord's
hold elapsed is set to the hold time itself, also where that is no multiple of the 5 ms step (DESIGN CHOICE, log entry 44). -/
def stepChord (d : ChordDef) (held inSet rested : Bool) (c : ChordRun) : ChordRun × Bool :=
  if d.count = 0 then (c, false)
  else
    match c.state with
    | .armed => if held && inSet then ({ state := .holding, elapsed := 5 }, false) else (c, false)
    | .holding =>
      if held && inSet then
        if d.holdMs ≤ c.elapsed + 5 then ({ state := .spent, elapsed := d.holdMs }, true)
        else ({ state := .holding, elapsed := c.elapsed + 5 }, false)
      else ({ state := .armed, elapsed := 0 }, false)
    | .spent => if rested then ({ state := .armed, elapsed := 0 }, false) else (c, false)

/-- The CHORD event of a firing (R136, R137), offered to the queue (R138), its cold flag by the extension in force (R129). -/
def offerChord (i : Nat) (s : State) : State :=
  admitEvent false
    { kind := .chord, position := none, code := 0, chord := some i, cold := coldNow s, stuck := false, resync := false,
      truncated := false, stamp := s.clock.cabinet, codes := [] } s

/-- The definition of a chord. -/
def chordAt (s : State) (i : Nat) : ChordDef :=
  s.cfg.chords.getD i { count := 0, m0 := 0, m1 := 0, m2 := 0, holdMs := 500, action := .report, phases := 0 }

/-- The actions of the chords of a list, in its order (R136). -/
def actionsOf (l : List Nat) (s : State) : List ChordAction := l.map fun i => (chordAt s i).action

/-! ## The pass -/

/-- Steps 1 and 2 of a pass (R125): every key's record, and what each made. -/
def stepKeys (m : Matrix) (s : State) : List (Key × Option Made) :=
  s.keys.keys.zipIdx.map fun kp =>
    passKey (keymapAt s.cfg.keymap kp.2) s.cfg.keypad (pressEff s) (relEff s) (m.getLsbD kp.2) (isAmbiguous m kp.2) kp.1

/-- Step 3 of a pass (R125): every chord against the updated keys and the phase in force. -/
def stepChords (s : State) : List (ChordRun × Bool) :=
  s.keys.chords.zipIdx.map fun ci =>
    let d := chordAt s ci.2
    stepChord d (isHeld s.keys.keys d) (inPhaseSet d.phases s.ctl.phase) (d.members.all (upAt s.keys.keys)) ci.1

/-- Key events offered in position order (R125, step 4). -/
def offerAll (l : List (Option Made × Nat)) (s : State) : State :=
  l.foldl (fun s mp => offerMade mp.2 (keymapAt s.cfg.keymap mp.2).code mp.1 (coldNow s) (coldNow s) s) s

/-- The chords that fired, by index. -/
def firedOf (l : List (ChordRun × Bool)) : List Nat := (l.zipIdx.filter fun x => x.1.2).map Prod.snd

/-- One scan pass (R125): keys, then chords, then the events queued in the order they were made, then the firings handed on. -/
def scan (m : Matrix) (s : State) : State :=
  let s := { s with
    pins.matrix := m, keys.scanAt := s.clock.now, keys.pressEff := pressEff s, keys.relEff := relEff s
    keys.coldPress := coldNow s, keys.coldRel := coldNow s }
  let made := stepKeys m s
  let s := { s with keys.keys := made.map Prod.fst }
  let run := stepChords s
  let s := { s with keys.chords := run.map Prod.fst }
  let s := offerAll ((made.map Prod.snd).zipIdx) s
  let s := (firedOf run).foldl (fun s i => offerChord i s) s
  handFirings (actionsOf (firedOf run) s) s

end Sys2Proof.Machine
end

