-- ==== Sys2Proof/Machine/Sensing.lean ====
section
/-! DEFINITION. Temperature sensing and what a sample updates: conversion (R27, R28), sensor states and filter (R29 to R32), effective
readings (R33), the gate record (R35, R36), overheat (R19, R20) and the cooling-degraded record (R56). -/

namespace Sys2Proof.Machine

/-! ## Conversion -/

/-- The kinds of sample (R27). -/
inductive SampleKind where
  | short
  | valid
  | openCircuit
  deriving DecidableEq, Repr

/-- The kind of a raw code (R27). -/
def sampleKind (r : RawCode) : SampleKind :=
  if r.toNat ≤ 63 then .short else if r.toNat ≤ 4031 then .valid else .openCircuit

/-- The reading of a valid raw code, clamped to the temperature window (R28). -/
def convert (r : RawCode) (trim : Int) : Int := max (-220) (min 500 ((r.toNat : Int) - 1220 + trim))

/-! ## Sensor states -/

/-- The filter stepped toward a reading (R32). -/
def filterStep (f t : Int) : Int :=
  let d := t - f
  let step := Int.tdiv d 4
  f + (if d ≠ 0 ∧ step = 0 then (if 0 < d then 1 else -1) else step)

/-- A sensor enters FAILED (R29, R30); its filter keeps what it holds. -/
def failSensor (x : Sensor) : Sensor := { x with state := .failed, faultyRun := 4, validRun := 0 }

/-- A sensor becomes VALID with its filter set to the reading (R29, R31). -/
def validSensor (t : Int) (x : Sensor) : Sensor :=
  { x with state := .valid, faultyRun := 0, validRun := 0, reading := some t, filtered := some t }

/-- A valid sample of a sensor (R29 to R31). -/
def validSample (t : Int) (x : Sensor) : Sensor :=
  match x.state with
  | .starting => validSensor t x
  | .valid => { x with faultyRun := 0, reading := some t, filtered := some (filterStep (x.filtered.getD t) t) }
  | .failed =>
    if 20 ≤ x.validRun + 1 then validSensor t x else { x with validRun := x.validRun + 1, reading := some t }

/-- A SHORT or OPEN sample of a sensor (R29 to R31). -/
def faultySample (x : Sensor) : Sensor :=
  match x.state with
  | .failed => { x with validRun := 0 }
  | .starting | .valid => if 4 ≤ x.faultyRun + 1 then failSensor x else { x with faultyRun := x.faultyRun + 1 }

/-- One sample of a sensor, by its kind (R29 to R31). -/
def sampleSensor (trim : Int) (r : RawCode) (x : Sensor) : Sensor :=
  match sampleKind r with
  | .valid => validSample (convert r trim) x
  | .short | .openCircuit => faultySample x

/-- Whether a sensor entered FAILED between two records of it (R34). -/
def enteredFailed (before after : Sensor) : Bool := before.state != .failed && after.state == .failed

/-- The filtered value of a usable sensor (R33). -/
def usable (x : Sensor) : Option Int := if x.state = .valid then x.filtered else none

/-- The three effective readings formed (R33): own value, else the substitute's, else "none". -/
def formReadings (s : State) : State :=
  let a := usable s.sens.air
  let d := usable s.sens.display
  let b := usable s.sens.board
  { s with sens.effAir := a.or b, sens.effDisplay := d.or a, sens.effBoard := b.or a }

/-- The record of a sensor. -/
def sensorOf (i : SensorId) (s : State) : Sensor :=
  match i with
  | .air => s.sens.air
  | .display => s.sens.display
  | .board => s.sens.board

/-- The record of a sensor, replaced. -/
def setSensor (i : SensorId) (x : Sensor) (s : State) : State :=
  match i with
  | .air => { s with sens.air := x }
  | .display => { s with sens.display := x }
  | .board => { s with sens.board := x }

/-- The trim of a sensor (R38). -/
def trimOf (i : SensorId) (s : State) : Int :=
  match i with
  | .air => s.cfg.sensing.trimAir
  | .display => s.cfg.sensing.trimDisplay
  | .board => s.cfg.sensing.trimBoard

/-- A sensor record replaced, with SENSOR_FAULT raised if it enters FAILED (R34). -/
def updateSensor (i : SensorId) (x : Sensor) (s : State) : State :=
  raiseIf (enteredFailed (sensorOf i s) x) .sensorFault (setSensor i x s)

/-- Stages 1 and 2 of a sample for one sensor (R26). -/
def sampleOne (i : SensorId) (r : RawCode) (s : State) : State :=
  updateSensor i (sampleSensor (trimOf i s) r (sensorOf i s)) s

/-! ## The gate record -/

/-- The satisfied test (R35). -/
def gateTest (s : State) : Bool :=
  match s.sens.effBoard, s.sens.effDisplay with
  | some b, some d => decide (s.cfg.sensing.gBoard ≤ b) && decide (s.cfg.sensing.gDisp ≤ d)
  | _, _ => false

/-- Soak complete becomes yes; in PREHEAT the phase moves to POWER_ON (R36, R8). -/
def completeSoak (s : State) : State :=
  let s := { s with sens.gate.complete := true }
  if s.ctl.phase = .preheat then enterPowerOn s else s

/-- The gate record updated at a sample (R35, R36). An entry to POWER_ON made here allocates on the readings that this sample has just formed,
as do the entries of `updateDwell` and `cooldownExit`: log entry 33. -/
def updateGate (s : State) : State :=
  let g := s.sens.gate
  let span := s.cfg.sensing.tSoak
  if gateTest s then
    if !g.satisfied then
      { s with sens.gate := { satisfied := true, since := some s.clock.uptime, soakMs := 0, complete := g.complete, span := span } }
    else if g.complete then { s with sens.gate.span := span }
    else
      let s := { s with sens.gate := { g with soakMs := g.soakMs + 250, span := span } }
      if span * 1000 ≤ g.soakMs + 250 then completeSoak s else s
  else if g.satisfied then
    { s with sens.gate := { satisfied := false, since := none, soakMs := 0, complete := false, span := span } }
  else { s with sens.gate.span := span }

/-! ## Overheat and cooling -/

/-- The overheat warning at a sample (R19). -/
def updateWarning (s : State) : State :=
  match s.sens.effBoard with
  | none => s
  | some t =>
    if s.sens.warnRaised then
      (if t < s.cfg.sensing.tWarn - 8 then { s with sens.warnRaised := false } else s)
    else if s.cfg.sensing.tWarn ≤ t then raise .overheatWarn { s with sens.warnRaised := true }
    else s

/-- The dwell ends in an OVERHEAT request (R20). -/
def overheat (s : State) : State := request .overheat { s with sens.dwellMs := 0 }

/-- Whether effective BOARD stands at or above T_trip. -/
def atTrip (s : State) : Bool :=
  match s.sens.effBoard with
  | none => false
  | some t => decide (s.cfg.sensing.tTrip ≤ t)

/-- The overheat dwell at a sample (R20). -/
def updateDwell (s : State) : State :=
  if s.ctl.phase = .cooldown || !atTrip s then { s with sens.dwellMs := 0 }
  else if 10000 ≤ s.sens.dwellMs + 250 then overheat s
  else { s with sens.dwellMs := s.sens.dwellMs + 250 }

/-- Degraded becomes yes, with its cause (R56). -/
def setDegraded (s : State) : State := raise .coolingDegraded { s with chan.cooling.degraded := true }

/-- The cooling-degraded record at a sample (R56). A dwell stops at 120 s. -/
def updateCooling (s : State) : State :=
  let c := s.chan.cooling
  let stalled := hasCondition stallBit s.chan.fan.ch
  match s.sens.effBoard, s.sens.effAir with
  | some b, some a =>
    if s.cfg.sensing.deltaMax < b - a ∧ (s.chan.fan.ch.applied = 64 ∨ stalled = true) then
      let s := { s with chan.cooling.setMs := min 120000 (c.setMs + 250), chan.cooling.clearMs := 0 }
      if 120000 ≤ c.setMs + 250 ∧ c.degraded = false then setDegraded s else s
    else if b - a < s.cfg.sensing.deltaMax - 20 ∧ stalled = false then
      let s := { s with chan.cooling.setMs := 0, chan.cooling.clearMs := min 120000 (c.clearMs + 250) }
      if 120000 ≤ c.clearMs + 250 ∧ c.degraded = true then { s with chan.cooling.degraded := false } else s
    else { s with chan.cooling.setMs := 0, chan.cooling.clearMs := 0 }
  | _, _ => { s with chan.cooling.setMs := 0, chan.cooling.clearMs := 0 }

/-- Stages 1 to 3 of a sample: the three sensors and the effective readings (R26). -/
def sampleSensors (a d b : RawCode) (s : State) : State :=
  formReadings (sampleOne .board b (sampleOne .display d (sampleOne .air a s)))

/-- One sample, its stages in the order of R26, with the test of R150 behind each stage that may raise a cause in RUN and has another such stage
after it: SENSOR_FAULT, OVERHEAT_WARN. The test for COOLING_DEGRADED ends the event. -/
def sample (a d b : RawCode) (s : State) : State :=
  let s := { s with pins.air := a, pins.display := d, pins.board := b, sens.sampleAt := s.clock.now }
  let s := sendNotice (sampleSensors a d b s)
  let s := sendNotice (updateWarning (updateGate s))
  cooldownExit (updateCooling (updateDwell s))

end Sys2Proof.Machine
end

