-- ==== Sys2Proof/Machine/Commands.lean ====
section
/-! DEFINITION. The command processor: each command judged by R144 and its owner's checks, executed, and answered (R143, R160, R161). -/

namespace Sys2Proof.Machine

/-- A reply joins the upstream queue at rank 0: class + 80h, the result code, the return data (R143). -/
def reply (cls : Byte) (r : Result) (data : List Byte) (s : State) : State := pushUp .reply (cls + 0x80) (r.code :: data) s

/-- A refusal: the result code alone (R143). -/
def refuse (cls : Byte) (r : Result) (s : State) : State := reply cls r [] s

/-! ## Status, causes, time, history, counters (R146 to R151) -/

/-- The seconds to the deadline's expiry as they are reported (R112). -/
def deadlineSeconds (s : State) : Nat :=
  match s.sup.deadline with
  | .stopped | .suspended => 0
  | .bootWindow | .heartbeat => secondsLeft s.sup.expiry s.clock.now

/-- The seconds of suspension remaining (R112). -/
def suspensionSeconds (s : State) : Nat :=
  match s.sup.suspension with
  | none => 0
  | some x => secondsLeft x.expiry s.clock.now

/-- The gate state's code (R37, R158). -/
def gateCode (g : Gate) : Nat := if !g.satisfied then 0 else if g.complete then 2 else 1

/-- A list of flags as the low bits of a byte, bit 0 first. The bits that the table of R161 does not name are 0: DESIGN CHOICE, log entry 48. -/
def bitsByte : List Bool → Nat
  | [] => 0
  | b :: rest => b.toNat + 2 * bitsByte rest

/-- Part 1 of the status record (R161). -/
def statusPart1 (s : State) : List Byte :=
  [byte (16 + s.ctl.phase.code), byte (bitsByte [s.pins.pwrgood, s.chan.cooling.degraded, s.link.c.stalled, s.link.b.stalled])]
    ++ be32 s.clock.uptime ++ be32 s.clock.timeInPhase ++ be32 s.clock.cabinet.toNat
    ++ tempBytes s.sens.effAir ++ tempBytes s.sens.effDisplay ++ tempBytes s.sens.effBoard
    ++ [byte s.sens.air.state.code, byte s.sens.display.state.code, byte s.sens.board.state.code, byte (gateCode s.sens.gate)]
    ++ be16 (soakRemaining s) ++ be32 (s.sens.gate.since.getD max32)

/-- Part 2 of the status record (R161). -/
def statusPart2 (s : State) : List Byte :=
  [byte (32 + s.ctl.phase.code)] ++ be32 s.clock.uptime
    ++ [byte s.chan.h0.ch.state.code, byte s.chan.h1.ch.state.code, byte s.chan.fan.ch.state.code,
        byte s.chan.h0.ch.applied, byte s.chan.h1.ch.applied, byte s.chan.fan.ch.applied,
        byte (bitsByte [s.chan.h0.ch.summary, s.chan.h1.ch.summary, s.chan.fan.ch.summary])]
    ++ be16 s.chan.fan.speed
    ++ [byte s.bud.last.compCharge, byte s.bud.last.fanCharge, byte s.bud.last.h1Charge, byte s.bud.last.blCharge,
        byte s.bud.last.h0Charge, byte s.bud.back.ceiling, byte s.bud.back.lReq, byte s.bud.back.lFwd,
        byte (bitsByte [s.bud.back.clamped, s.bud.back.resend, s.bud.back.unenforced]), byte s.sup.deadline.code]
    ++ be16 (deadlineSeconds s) ++ be16 (suspensionSeconds s)
    ++ [byte s.sup.staleCount, byte (eligible s).length, byte (keysDown s)]

/-- GET_STATUS (R146, R161). -/
def cmdGetStatus (p : List Byte) (s : State) : State :=
  if p.length ≠ 0 then refuse 0x40 .badLength s
  else
    reply 0x40 .ok (if s.note.statusPart2 then statusPart2 s else statusPart1 s)
      { s with note.statusPart2 := !s.note.statusPart2 }

/-- GET_CAUSE (R151), with the test of R150 made after its reply. -/
def cmdGetCause (p : List Byte) (s : State) : State :=
  if p.length ≠ 0 then refuse 0x41 .badLength s
  else
    let code := topCode s
    let left := (eligible s).length - 1
    let s :=
      match eligible s with
      | [] => s
      | c :: _ => { s with note.pending := s.note.pending &&& ~~~causeBit c }
    sendNotice (reply 0x41 .ok [byte code, byte left] { s with note.outstanding := false })

/-- SET_CAUSE_ENABLES (R149), with the test of R150 made after it. -/
def cmdSetCauseEnables (p : List Byte) (s : State) : State :=
  if p.length ≠ 2 then refuse 0x42 .badLength s
  else
    let e := BitVec.ofNat 13 (u16At p 0)
    sendNotice (reply 0x42 .ok (be16 e.toNat) { s with cfg.enables := e })

/-- SET_TIME (R4, R146). -/
def cmdSetTime (p : List Byte) (s : State) : State :=
  if p.length ≠ 4 then refuse 0x43 .badLength s
  else reply 0x43 .ok (be32 (u32At p 0)) { s with clock.cabinet := BitVec.ofNat 32 (u32At p 0) }

/-- The records GET_HISTORY returns: newest first, from a start position (R147). -/
def historyFrom (start count : Nat) (s : State) : List RestartRecord := (s.sup.history.reverse.drop start).take count

/-- GET_HISTORY (R147). -/
def cmdGetHistory (p : List Byte) (s : State) : State :=
  if p.length ≠ 2 then refuse 0x44 .badLength s
  else if 7 < u8At p 0 then refuse 0x44 .badIndex s
  else
    let held := byte s.sup.history.length
    let count := min 2 (u8At p 1)
    let l := historyFrom (u8At p 0) count s
    reply 0x44 (clampedIf (decide (2 < u8At p 1)))
      (if count = 0 then held :: be32 s.sup.floor else held :: byte l.length :: l.flatMap writeRecord) s

/-- The seven counters both ports have, in order (R160). -/
def writeCounters (c : Counters) : List Byte :=
  be16 c.good ++ be16 c.check ++ be16 c.length ++ be16 c.timeout ++ be16 c.misrouted ++ be16 c.overflow ++ be16 c.stallDiscard

/-- GET_LINK_COUNTERS (R148). -/
def cmdGetLinkCounters (p : List Byte) (s : State) : State :=
  if p.length ≠ 0 then refuse 0x46 .badLength s
  else
    reply 0x46 .ok
      (writeCounters s.link.c.counters ++ be16 s.link.c.counters.resetDiscard ++ writeCounters s.link.b.counters) s

/-- CLEAR_COUNTERS (R107, R148). -/
def cmdClearCounters (p : List Byte) (s : State) : State :=
  if p.length ≠ 0 then refuse 0x47 .badLength s
  else
    reply 0x47 .ok []
      { s with
        link.c.counters := Counters.zero, link.b.counters := Counters.zero
        pass := s.pass.map fun _ => EntryCounts.zero }

/-! ## Heartbeats and the watchdog (R109, R114 to R117, R120) -/

/-- PULSE (R109). RUN may be entered by it, so the follow-ups of an event are made. -/
def cmdPulse (p : List Byte) (s : State) : State :=
  if 1 < p.length then refuse 0x45 .badLength s
  else
    let r := offerHeartbeat .pulse p.head? s
    let s := r.1
    settle
      (reply 0x45 .ok
        ([if r.2 = some true then 0 else 1, byte s.sup.staleCount, byte s.sup.deadline.code] ++ be16 (deadlineSeconds s)) s)

/-- SET_WATCHDOG (R120): a change of the window, K or M moves the floor to the present uptime. -/
def cmdSetWatchdog (p : List Byte) (s : State) : State :=
  if p.length ≠ 8 then refuse 0x58 .badLength s
  else
    match boolOfCode (u8At p 4) with
    | none => refuse 0x58 .badValue s
    | some check =>
      let asked := readWatchdog p check
      let w := clampWatchdog asked
      let old := s.cfg.watchdog
      let moved := decide (w.window ≠ old.window ∨ w.k ≠ old.k ∨ w.m ≠ old.m)
      reply 0x58 (clampedIf (w != asked)) (writeWatchdog w)
        { s with cfg.watchdog := w, sup.floor := if moved then s.clock.uptime else s.sup.floor }

/-- SUSPEND_WATCHDOG (R114). -/
def cmdSuspendWatchdog (p : List Byte) (s : State) : State :=
  if p.length ≠ 2 then refuse 0x59 .badLength s
  else if s.ctl.phase ≠ .run then refuse 0x59 .wrongPhase s
  else
    let asked := u16At p 0
    let d := clampN 1 3600 asked
    let now := s.clock.now
    let start :=
      match s.sup.deadline, s.sup.suspension with
      | .suspended, some x => x.start
      | _, _ => now
    let e := min (now + sec d) (start + sec 3600)
    reply 0x59 (clampedIf (decide (d ≠ asked ∨ e ≠ now + sec d))) (be16 (secondsLeft e now))
      { s with sup.deadline := .suspended, sup.suspension := some { start := start, expiry := e } }

/-- A suspension ends at an instant and the heartbeat deadline starts from it (R115). -/
def endSuspension (at_ : Nat) (s : State) : State :=
  { s with sup.suspension := none, sup.deadline := .heartbeat, sup.expiry := at_ + sec s.cfg.watchdog.tHb }

/-- RESUME_WATCHDOG (R115). -/
def cmdResumeWatchdog (p : List Byte) (s : State) : State :=
  if p.length ≠ 0 then refuse 0x5A .badLength s
  else if s.ctl.phase ≠ .run then refuse 0x5A .wrongPhase s
  else reply 0x5A .ok [] (if s.sup.deadline = .suspended then endSuspension s.clock.now s else s)

/-- ARM_RESTART (R116); the arm is clear when it is judged. -/
def cmdArmRestart (p : List Byte) (s : State) : State :=
  if p.length ≠ 0 then refuse 0x5B .badLength s
  else reply 0x5B .ok [] { s with sup.arm := some (s.clock.now + sec 1) }

/-- RESTART (R117), judged against the arm as it stood when the command was taken. The reply is queued, then the request handed over. -/
def cmdRestart (p : List Byte) (armed : Bool) (s : State) : State :=
  if p.length ≠ 1 then refuse 0x5C .badLength s
  else if 1 < u8At p 0 then refuse 0x5C .badValue s
  else if !armed then refuse 0x5C .notArmed s
  else if !releasedPhase s.ctl.phase then refuse 0x5C .wrongPhase s
  else request (if u8At p 0 = 0 then .commandedReset else .commandedCycle) (reply 0x5C .ok [] s)

/-! ## The pass table (R95, R102 to R106) -/

/-- Whether a definition is an ACTIVE CLAMP_LEVEL entry (R103). -/
def isClamp (d : PassDef) : Bool := d.active && d.action == .clampLevel

/-- Whether an index other than `i` holds an ACTIVE CLAMP_LEVEL entry (R103). -/
def clampElsewhere (i : Nat) (l : List PassDef) : Bool := l.zipIdx.any fun x => isClamp x.1 && x.2 != i

/-- The checks of R103 on an entry's definition, in their order after the length and the index. -/
def judgePassEntry (p : List Byte) (s : State) : Except Result PassDef :=
  let st := u8At p 1
  let act := u8At p 3
  if st = 1 ∧ act = 4 ∧ 7 < u8At p 14 then .error .badIndex
  else
    match boolOfCode st, Direction.ofCode (u8At p 2), PassAction.ofCode act with
    | some active, some dir, some action =>
      let d := readPassDef p active dir action
      if active = true ∧ (action = .heartbeat ∨ action = .clampLevel) ∧ dir = .up then .error .badValue
      else if active = true ∧ action = .heartbeat ∧ 31 < d.tokenOffset.toNat ∧ d.tokenOffset ≠ 0xFF then .error .badValue
      else if active = true ∧ action = .clampLevel ∧ 31 < d.levelOffset.toNat then .error .badValue
      else if isClamp d ∧ clampElsewhere (u8At p 0) s.cfg.pass then .error .conflict
      else .ok d
    | _, _, _ => .error .badValue

/-- A pass entry replaced whole (R104): counts cleared, the source's token forgotten, and the template discarded when the old entry
was the ACTIVE CLAMP_LEVEL one (R71). -/
def writeEntry (i : Nat) (d : PassDef) (s : State) : State :=
  let old := isClamp (s.cfg.pass.getD i PassDef.factory)
  { s with
    cfg.pass := s.cfg.pass.set i d
    pass := s.pass.set i EntryCounts.zero
    sup.entryTokens := s.sup.entryTokens.set i none
    bud.back.template := if old then none else s.bud.back.template
    bud.back.levelOffset := if old then none else s.bud.back.levelOffset }

/-- SET_PASS_ENTRY (R103, R104). -/
def cmdSetPassEntry (p : List Byte) (s : State) : State :=
  if p.length ≠ 15 then refuse 0x48 .badLength s
  else if 31 < u8At p 0 then refuse 0x48 .badIndex s
  else
    match judgePassEntry p s with
    | .error e => refuse 0x48 e s
    | .ok d => reply 0x48 .ok [] (writeEntry (u8At p 0) d s)

/-- The counts of a GET_PASS_ENTRY reply (R160); the four bytes of an absent last hit have no stated value (log entry 9). -/
def writeCounts (c : EntryCounts) : List Byte :=
  be16 c.hits ++ be16 c.special ++ [flagByte c.lastHit.isSome] ++ be32 (c.lastHit.getD Config.absentLastHit).toNat

/-- GET_PASS_ENTRY (R106). -/
def cmdGetPassEntry (p : List Byte) (s : State) : State :=
  if p.length ≠ 1 then refuse 0x49 .badLength s
  else if 31 < u8At p 0 then refuse 0x49 .badIndex s
  else
    reply 0x49 .ok
      (p.getD 0 0 :: writePassDef (s.cfg.pass.getD (u8At p 0) PassDef.factory)
        ++ writeCounts (s.pass.getD (u8At p 0) EntryCounts.zero)) s

/-- SET_ANSWER (R102). -/
def cmdSetAnswer (p : List Byte) (s : State) : State :=
  if p.length < 6 ∨ p.length ≠ 6 + u8At p 5 then refuse 0x4A .badLength s
  else if 16 < u8At p 5 then refuse 0x4A .badLength s
  else if 7 < u8At p 0 then refuse 0x4A .badIndex s
  else if !liveFieldsFit (readAnswer p) then refuse 0x4A .badValue s
  else reply 0x4A .ok [] { s with cfg.answers := s.cfg.answers.set (u8At p 0) (readAnswer p) }

/-- GET_ANSWER (R102). -/
def cmdGetAnswer (p : List Byte) (s : State) : State :=
  if p.length ≠ 1 then refuse 0x4B .badLength s
  else if 7 < u8At p 0 then refuse 0x4B .badIndex s
  else reply 0x4B .ok (writeAnswer (p.getD 0 0) (answerRecord (u8At p 0) s)) s

/-- SET_DEFAULT_ACTIONS (R95). -/
def cmdSetDefaultActions (p : List Byte) (s : State) : State :=
  if p.length ≠ 2 then refuse 0x4C .badLength s
  else
    match DefaultAction.ofCode (u8At p 0), DefaultAction.ofCode (u8At p 1) with
    | some d, some u => reply 0x4C .ok [byte d.code, byte u.code] { s with cfg.defaultDown := d, cfg.defaultUp := u }
    | _, _ => refuse 0x4C .badValue s

/-! ## Thermal, budget and channels (R48, R52, R59, R145) -/

/-- SET_THERMAL (R145): the group replaced, the summaries recomputed on a mask change (R57), the reply, an allocation made (R60). The test of R150 is made
for the CHANNEL_FAULT of the masks and again for the BUDGET_LIMITED of the allocation. -/
def cmdSetThermal (p : List Byte) (s : State) : State :=
  if p.length ≠ 20 then refuse 0x50 .badLength s
  else if u8At p 0 = 1 then
    let asked := readChannels p
    let g := clampChannels asked
    let s := refreshSummaries { s with cfg.channels := g }
    settle (allocateNow (sendNotice (reply 0x50 (clampedIf (g != asked)) (writeChannels g) s)))
  else if u8At p 0 = 2 then
    match WarmUpPolicy.ofCode (u8At p 11) with
    | none => refuse 0x50 .badValue s
    | some policy =>
      let asked := readSensing p policy
      let g := clampSensing asked
      settle (reply 0x50 (clampedIf (g != asked)) (writeSensing g) (allocateNow { s with cfg.sensing := g }))
  else refuse 0x50 .badIndex s

/-- GET_THERMAL (R145). -/
def cmdGetThermal (p : List Byte) (s : State) : State :=
  if p.length ≠ 1 then refuse 0x51 .badLength s
  else if u8At p 0 = 1 then reply 0x51 .ok (writeChannels s.cfg.channels) s
  else if u8At p 0 = 2 then reply 0x51 .ok (writeSensing s.cfg.sensing) s
  else refuse 0x51 .badIndex s

/-- SET_BUDGET (R59). -/
def cmdSetBudget (p : List Byte) (s : State) : State :=
  if p.length ≠ 8 then refuse 0x52 .badLength s
  else settle (reply 0x52 .ok (writeBudget (readBudget p)) (allocateNow { s with cfg.budget := readBudget p }))

/-- What GET_CHANNEL_DIAG reports of one channel (R52, R160). The bits of its flags and conditions bytes that R160 does not name are 0: DESIGN CHOICE,
log entry 48. Its summary byte, which R160 gives no codes and does not mark as a flag, is 00h for clear and 01h for set: DESIGN CHOICE, log entry 49. -/
def writeChannel (c : Channel) : List Byte :=
  [byte c.state.code, byte c.applied, byte c.flags.toNat, byte c.conds.toNat, byte c.trips.length, flagByte c.summary]

/-- Each set flag whose condition is absent is cleared (R52). -/
def clearSettledFlags (c : Channel) : Channel := { c with flags := c.flags &&& c.conds }

/-- GET_CHANNEL_DIAG (R52). -/
def cmdGetChannelDiag (p : List Byte) (s : State) : State :=
  if p.length ≠ 0 then refuse 0x53 .badLength s
  else
    reply 0x53 .ok
      (writeChannel s.chan.h0.ch ++ writeChannel s.chan.h1.ch ++ writeChannel s.chan.fan.ch ++ be16 s.chan.fan.speed
        ++ [flagByte s.chan.fan.running])
      (refreshSummaries
        { s with
          chan.h0.ch := clearSettledFlags s.chan.h0.ch
          chan.h1.ch := clearSettledFlags s.chan.h1.ch
          chan.fan.ch := clearSettledFlags s.chan.fan.ch })

/-- The channel of an index (R158). -/
def channelOfIndex : Nat → Option ChannelId
  | 0 => some .h0
  | 1 => some .h1
  | 2 => some .fan
  | _ => none

/-- A channel's lock cleared (R48). -/
def clearLock (c : ChannelId) (s : State) : State :=
  let x := clearCondition overcurrentBit { channelOf c s with trips := [] }
  if x.state = .lockedOff then zeroBase c (setChannel c { x with state := .off, applied := 0 } s) else setChannel c x s

/-- CLEAR_CHANNEL_LOCK (R48). -/
def cmdClearChannelLock (p : List Byte) (s : State) : State :=
  if p.length ≠ 1 then refuse 0x54 .badLength s
  else
    match channelOfIndex (u8At p 0) with
    | none => refuse 0x54 .badIndex s
    | some c => reply 0x54 .ok [] (syncSwitches (clearLock c s))

/-! ## Keypad (R133, R134, R141) -/

/-- SET_KEYPAD (R141). -/
def cmdSetKeypad (p : List Byte) (s : State) : State :=
  if p.length ≠ 11 then refuse 0x55 .badLength s
  else
    let asked := readKeypad p
    let k := clampKeypad asked
    reply 0x55 (clampedIf (k != asked)) (writeKeypad k) { s with cfg.keypad := k }

/-- What a change of a position's code to 0 does to its key (R133). -/
def dropKey (k : Key) : Key × Option Made :=
  match k.state with
  | .up => (k, none)
  | .pressPending | .stuck => (restKey k, none)
  | .down | .releasePending => releaseKey k

/-- One keymap entry replaced, and its key handled by the change of its code (R133). The RELEASE made carries the old code, and the cold
flag of the last pass (R129). -/
def setKeymapEntry (pos : Nat) (ent : KeymapEntry) (s : State) : State :=
  let old := keymapAt s.cfg.keymap pos
  let s := { s with cfg.keymap := s.cfg.keymap.set pos ent }
  if ent.code = 0 ∧ old.code ≠ 0 then
    match s.keys.keys[pos]? with
    | none => s
    | some k =>
      let r := dropKey k
      offerMade pos old.code r.2 s.keys.coldPress s.keys.coldRel { s with keys.keys := s.keys.keys.set pos r.1 }
  else s

/-- The entries of a SET_KEYMAP replaced (R133). Where several keys are released by one command, the RELEASEs are made in position order:
DESIGN CHOICE, log entry 36. -/
def setKeymapEntries (p : List Byte) (first : Nat) : Nat → State → State
  | 0, s => s
  | n + 1, s => setKeymapEntry (first + n) (readKeymapEntry p n) (setKeymapEntries p first n s)

/-- SET_KEYMAP (R133). -/
def cmdSetKeymap (p : List Byte) (s : State) : State :=
  let first := u8At p 0
  let count := u8At p 1
  if p.length < 6 ∨ count = 0 ∨ 16 < count ∨ p.length ≠ 6 + count then refuse 0x5D .badLength s
  else if 47 < first ∨ 48 < first + count then refuse 0x5D .badIndex s
  else settle (reply 0x5D .ok [] (setKeymapEntries p first count s))

/-- The checks of R134 on a chord's definition, in their order after the length and the index. -/
def judgeChord (p : List Byte) : Option ChordDef :=
  match ChordAction.ofCode (u8At p 7) with
  | none => none
  | some act =>
    let d := readChord p act
    if (d.count = 0 ∨ d.count = 2 ∨ d.count = 3) ∧ d.members.all (fun m => decide (m ≤ 47)) ∧ d.members.Nodup then some d
    else none

/-- SET_CHORD (R134). -/
def cmdSetChord (p : List Byte) (s : State) : State :=
  if p.length ≠ 9 then refuse 0x5E .badLength s
  else if 3 < u8At p 0 then refuse 0x5E .badIndex s
  else
    match judgeChord p with
    | none => refuse 0x5E .badValue s
    | some asked =>
      let d := clampChord asked
      let st := if d.members.all (upAt s.keys.keys) then ChordState.armed else .spent
      reply 0x5E (clampedIf (d != asked)) (p.getD 0 0 :: writeChord d)
        { s with
          cfg.chords := s.cfg.chords.set (u8At p 0) d
          keys.chords := s.keys.chords.set (u8At p 0) { state := st, elapsed := 0 } }

/-! ## The store (R154), and the rest -/

/-- STORE_SETTINGS (R154). The area is left as it stands until the programming ends or is cut short: DESIGN CHOICE, log entry 41. -/
def cmdStoreSettings (p : List Byte) (s : State) : State :=
  if p.length ≠ 0 then refuse 0x5F .badLength s
  else if s.store.programming.isSome then refuse 0x5F .busy s
  else reply 0x5F .accepted [] { s with store.programming := some s.clock.now, store.capture := some s.cfg }

/-- A class in 40h to 5Fh that names no command (R144). -/
def cmdUnknown (cls : Byte) (s : State) : State := refuse cls .unknown s

/-- A command executed by its class (R157, R160). -/
def runCommand (cls : Byte) (p : List Byte) (armed : Bool) (s : State) : State :=
  match cls.toNat with
  | 0x40 => cmdGetStatus p s
  | 0x41 => cmdGetCause p s
  | 0x42 => cmdSetCauseEnables p s
  | 0x43 => cmdSetTime p s
  | 0x44 => cmdGetHistory p s
  | 0x45 => cmdPulse p s
  | 0x46 => cmdGetLinkCounters p s
  | 0x47 => cmdClearCounters p s
  | 0x48 => cmdSetPassEntry p s
  | 0x49 => cmdGetPassEntry p s
  | 0x4A => cmdSetAnswer p s
  | 0x4B => cmdGetAnswer p s
  | 0x4C => cmdSetDefaultActions p s
  | 0x50 => cmdSetThermal p s
  | 0x51 => cmdGetThermal p s
  | 0x52 => cmdSetBudget p s
  | 0x53 => cmdGetChannelDiag p s
  | 0x54 => cmdClearChannelLock p s
  | 0x55 => cmdSetKeypad p s
  | 0x58 => cmdSetWatchdog p s
  | 0x59 => cmdSuspendWatchdog p s
  | 0x5A => cmdResumeWatchdog p s
  | 0x5B => cmdArmRestart p s
  | 0x5C => cmdRestart p armed s
  | 0x5D => cmdSetKeymap p s
  | 0x5E => cmdSetChord p s
  | 0x5F => cmdStoreSettings p s
  | _ => cmdUnknown cls s

/-- Whether a class is a command class (R143). -/
def isCommandClass (cls : Byte) : Bool := decide (0x40 ≤ cls.toNat) && decide (cls.toNat ≤ 0x5F)

/-- A command frame taken by the command processor: the restart arm cleared before it is executed (R116, R143). -/
def takeCommand (cls : Byte) (p : List Byte) (s : State) : State :=
  runCommand cls p s.sup.arm.isSome { s with sup.arm := none }

end Sys2Proof.Machine
end

