-- ==== Sys2Proof/Machine/Receiver.lean ====
section
/-! DEFINITION. The receivers (R78, R79), routing (R82, R84, R143), the link reset (R81), and the transmitters (R76, R85). -/

namespace Sys2Proof.Machine

/-! ## Routing -/

/-- A command frame that the link unit hands over: taken where its reply has room, else discarded before it is executed (R84).
`act` is the command, given whether the arm was armed when the frame was taken (R116). -/
def handOver (act : Bool → State → State) (s : State) : State :=
  if s.link.up.length ≤ 11 then act s.sup.arm.isSome { s with sup.arm := none }
  else settle (raise .linkFault (countOn .c Counters.incOverflow s))

/-- A good C-port frame discarded as received in reset (R82). -/
def discardInReset (s : State) : State := reportLate (countOn .c Counters.incResetDiscard s)

/-- The arrival on the C-port of a good command frame from the computer (R79, R82, R84). -/
def commandArrives (act : Bool → State → State) (s : State) : State :=
  let s := countOn .c Counters.incGood s
  if s.lines.pcRst then discardInReset s else handOver act s

/-- A frame addressed to the part: a command by its class, else MISROUTED with the arm left as it was (R143). -/
def commandFrame (f : Frame) (s : State) : State :=
  if isCommandClass f.cls then handOver (fun armed => runCommand f.cls f.payload armed) s
  else countOn .c Counters.incMisrouted s

/-- A good frame of the C-port routed by the first test of R82 that decides it. -/
def routeC (f : Frame) (s : State) : State :=
  if s.lines.pcRst then discardInReset s
  else if f.src ≠ computerNode then countOn .c Counters.incMisrouted s
  else if f.dst = ownNode then commandFrame f s
  else if f.dst = allNodes ∨ isBezel f.dst = true then settle (passFrame .down f s)
  else countOn .c Counters.incMisrouted s

/-- A good frame of the B-port routed by the first test of R82 that decides it. -/
def routeB (f : Frame) (s : State) : State :=
  if isBezel f.src = false then countOn .b Counters.incMisrouted s
  else if f.dst = computerNode ∨ f.dst = allNodes then settle (passFrame .up f s)
  else countOn .b Counters.incMisrouted s

/-- A good frame, counted and routed (R79, R82). -/
def goodFrame (p : PortId) (f : Frame) (s : State) : State :=
  match p with
  | .c => routeC f (countOn .c Counters.incGood s)
  | .b => routeB f (countOn .b Counters.incGood s)

/-! ## The receive assembly -/

/-- The bytes of a list from its first D2h on (R78). -/
def dropToSync : List Byte → List Byte
  | [] => []
  | b :: rest => if b = syncByte then b :: rest else dropToSync rest

/-- The bytes taken so far examined (R78, R79): passed over up to a SYNC, a frame judged when it is whole, the rest searched again
after a fault. What is left is the assembly. `fuel` bounds the searches by the number of bytes. -/
def examine (p : PortId) : Nat → List Byte → State → List Byte × State
  | 0, l, s => (l, s)
  | fuel + 1, l, s =>
    let l := dropToSync l
    if l.length < 5 then (l, s)
    else
      let n := (l.getD 4 0).toNat
      if 32 < n then examine p fuel l.tail (countOn p Counters.incLength s)
      else if l.length < 7 + n then (l, s)
      else if checkMatches (frameOf l n) then examine p fuel (l.drop (7 + n)) (goodFrame p (frameOf l n) s)
      else examine p fuel l.tail (countOn p Counters.incCheck s)

/-- Bytes in a receiver, the last of them just taken (R78). -/
def receive (p : PortId) (l : List Byte) (s : State) : State :=
  let r := examine p l.length l s
  setPort p { portOf p r.2 with assembly := r.1, lastByte := s.clock.now } r.2

/-- A receiver back in HUNT with its assembly empty. -/
def emptyAssembly (p : PortId) (s : State) : State := setPort p { portOf p s with assembly := [] } s

/-! ## Link reset (R81) -/

/-- A port as a link reset leaves it: HUNT, not STALLED, the stall timer stopped; its transmission and counters go on. -/
def Port.afterLinkReset (x : Port) : Port := { x with assembly := [], stalled := false, stallFrom := none }

/-- The link reset (R81), with the resend report of R70 and the status part pointer at part 1 (R161). -/
def linkReset (s : State) : State :=
  let s := setUp [] (flushDown s)
  { s with
    link.c := s.link.c.afterLinkReset
    link.b := s.link.b.afterLinkReset
    sup.arm := none
    note.outstanding := false
    note.statusPart2 := false }

/-! ## Transmission (R76, R85) -/

/-- Whether a port's transmitter starts a frame now (R76). -/
def canStart (p : PortId) (s : State) : Bool := (portOf p s).sending.isNone && rdyIn p s && holdsFrame p s

/-- A frame put into a port's transmitter. -/
def putSending (p : PortId) (f : Frame) (s : State) : State :=
  setPort p { portOf p s with sending := some { frame := f, since := s.clock.now } } s

/-- A transmission started where the three conditions of R76 hold: the head of the downstream queue, or the arbiter's choice from
the upstream queue (R85), whose leaving lets a NOTICE or a KEY frame in (R140, R150). -/
def startFrame (p : PortId) (s : State) : State :=
  if canStart p s then
    match p with
    | .b =>
      match s.link.down with
      | [] => s
      | f :: rest => setDown rest (putSending .b f.frame s)
    | .c =>
      match takeByRank s.link.up with
      | none => s
      | some (f, rest) => settle (setUp rest (putSending .c f.frame s))
  else s

/-- The line rate in bits a second (R75). -/
def lineRate (rateHigh : Bool) : Nat := if rateHigh then 460800 else 115200

/-- The time a frame takes on the line, in microseconds, rounded up: ten bits a byte (R75, R157). -/
def frameTime (rateHigh : Bool) (f : Frame) : Nat :=
  ((7 + f.payload.length) * 10000000 + lineRate rateHigh - 1) / lineRate rateHigh

/-! ## Stalls (R87, R88) -/

/-- Whether a queued frame is of rank 3. -/
def isForwarded (f : UpFrame) : Bool := f.rank == .forwarded

/-- The B-port enters STALLED: its queue is flushed, counted and reported (R87). -/
def stallB (s : State) : State :=
  let n := s.link.down.length
  let s := { s with link.b.stalled := true, link.b.stallFrom := none }
  flushDown (countOn .b (Counters.addStallDiscard n) s)

/-- The C-port enters STALLED: rank 3 frames are removed and counted (R88). -/
def stallC (s : State) : State :=
  let n := s.link.up.countP isForwarded
  let s := { s with link.c.stalled := true, link.c.stallFrom := none }
  setUp (s.link.up.filter fun f => !isForwarded f) (countOn .c (Counters.addStallDiscard n) s)

end Sys2Proof.Machine
end

