-- ==== Sys2Proof/Machine/ChannelEvents.lean ====
section
/-! DEFINITION. The commands of the budget unit and the channel unit: the 1 s timer, the switches and their comparators, the tach, and
HEAT_INH# (chapters 3 and 4). -/

namespace Sys2Proof.Machine

/-- A control period begins: the hold-offs clear (R43). -/
def beginPeriod (s : State) : State :=
  { s with
    bud.periodAt := s.clock.now
    chan.h0.ch.holdOff := false
    chan.h1.ch.holdOff := false
    chan.fan.ch.holdOff := false }

/-- BUDGET_TIMER_EXPIRY (R60, R43). -/
def execBudgetTimerExpiry (s : State) : Host.Outcome State Fault Refusal :=
  whenOn s fun s => settle (allocateNow (beginPeriod s))

/-- BUDGET_LIMITED (R66): the allocation at which the limited run reaches 60. -/
def execBudgetLimited (s : State) : Host.Outcome State Fault Refusal :=
  whenOn s fun s =>
    if s.bud.limitedRun = 59 then settle (raise .budgetLimited { s with bud.limitedRun := 60 }) else s

/-- Whether a conducting heater's on-time has ended (R43). -/
def onTimeDue (h : HeaterId) (s : State) : Bool :=
  let x := (heaterOf h s).ch
  x.on && decide (x.applied < 64) && decide (s.bud.periodAt + onTime x.applied ≤ s.clock.now)

/-- HEATER_ON_TIME_END. -/
def execHeaterOnTimeEnd (h : HeaterId) (s : State) : Host.Outcome State Fault Refusal :=
  whenOn s fun s => if onTimeDue h s then syncHeater h s else s

/-- A heater's comparators with one of them changed. -/
def HeaterSense.set (c : Comparator) (reports : Bool) (q : HeaterSense) : HeaterSense :=
  match c with
  | .trip => { q with trip := reports }
  | .openLoad => { q with openLoad := reports }
  | .sense => { q with sense := reports }

/-- A comparator output as it now stands. The fan has the trip comparator alone (chapter 3). -/
def setComparator (channel : ChannelId) (c : Comparator) (reports : Bool) (s : State) : State :=
  match channel with
  | .h0 => { s with pins.h0 := s.pins.h0.set c reports }
  | .h1 => { s with pins.h1 := s.pins.h1.set c reports }
  | .fan =>
    match c with
    | .trip => { s with pins.fanTrip := reports }
    | .openLoad | .sense => s

/-- The measurements of a channel judged again (R47, R49, R50). -/
def syncChannel (c : ChannelId) (s : State) : State :=
  match c with
  | .h0 => syncHeater .h0 s
  | .h1 => syncHeater .h1 s
  | .fan => syncFan s

/-- COMPARATOR_CHANGE. -/
def execComparatorChange (channel : ChannelId) (c : Comparator) (reports : Bool) (s : State) :
    Host.Outcome State Fault Refusal :=
  whenOn (setComparator channel c reports s) (syncChannel channel)

/-- Whether a channel's overcurrent filter has reached the filter time in force (R47). -/
def overcurrentDue (c : ChannelId) (s : State) : Bool := hasRun (channelOf c s).overFrom (filterTime c s) s.clock.now

/-- OVERCURRENT_TRIP. -/
def execOvercurrentTrip (c : ChannelId) (s : State) : Host.Outcome State Fault Refusal :=
  whenOn s fun s => if overcurrentDue c s then settle (tripChannel c s) else s

/-- Whether a trip has reached 60 s of age, outside LOCKED_OFF (R47, R48). -/
def ageOutDue (c : ChannelId) (s : State) : Bool :=
  let x := channelOf c s
  x.state != .lockedOff && x.trips.any fun t => decide (t + sec 60 ≤ s.clock.now)

/-- TRIP_AGE_OUT. -/
def execTripAgeOut (c : ChannelId) (s : State) : Host.Outcome State Fault Refusal :=
  whenOn s fun s => if ageOutDue c s then ageTrips c s else s

/-- OPEN_LOAD_DETECTED (R49). -/
def execOpenLoadDetected (h : HeaterId) (s : State) : Host.Outcome State Fault Refusal :=
  whenOn s fun s =>
    if hasRun (heaterOf h s).openFrom (ms 50) s.clock.now then settle (flagCondition (heaterChannel h) openLoadBit s) else s

/-- A heater's condition becomes absent. -/
def clearHeaterCondition (h : HeaterId) (bit : BitVec 3) (s : State) : State :=
  setChannel (heaterChannel h) (clearCondition bit (channelOf (heaterChannel h) s)) s

/-- OPEN_LOAD_CLEARED (R49). -/
def execOpenLoadCleared (h : HeaterId) (s : State) : Host.Outcome State Fault Refusal :=
  whenOn s fun s =>
    if hasRun (heaterOf h s).goodFrom (ms 50) s.clock.now then clearHeaterCondition h openLoadBit s else s

/-- SHORT_TO_SUPPLY_DETECTED (R50). -/
def execShortToSupplyDetected (h : HeaterId) (s : State) : Host.Outcome State Fault Refusal :=
  whenOn s fun s =>
    if hasRun (heaterOf h s).shortFrom (ms 50) s.clock.now then settle (flagCondition (heaterChannel h) shortBit s) else s

/-- SHORT_TO_SUPPLY_CLEARED (R50). -/
def execShortToSupplyCleared (h : HeaterId) (s : State) : Host.Outcome State Fault Refusal :=
  whenOn s fun s =>
    if hasRun (heaterOf h s).lowFrom (ms 50) s.clock.now then clearHeaterCondition h shortBit s else s

/-- A tach pulse (R45), with what its measurement means for STALL (R46). The first pulse gives no period. -/
def tachPulses (s : State) : State :=
  let now := s.clock.now
  match s.chan.fan.lastPulse with
  | none => { s with chan.fan.lastPulse := some now }
  | some t =>
    let rpm := fanRpm (now - t)
    let ch := s.chan.fan.ch
    syncFan
      { s with chan.fan :=
        { s.chan.fan with
          speed := rpm
          lastPulse := some now
          ch := if 600 ≤ rpm ∧ 16 ≤ ch.applied then clearCondition stallBit ch else ch } }

/-- TACH_PULSE. -/
def execTachPulse (s : State) : Host.Outcome State Fault Refusal := whenOn s tachPulses

/-- Whether a second has passed without a tach pulse (R45). -/
def tachDue (s : State) : Bool := hasRun s.chan.fan.lastPulse (sec 1) s.clock.now

/-- TACH_TIMEOUT. -/
def execTachTimeout (s : State) : Host.Outcome State Fault Refusal :=
  whenOn s fun s =>
    if tachDue s then syncFan { s with chan.fan.speed := 0, chan.fan.lastPulse := none } else s

/-- The stall found (R46): condition and flag, and FAN_STALL when the flag rises while enabled (R51), each raise with its test of R150. -/
def stallFound (s : State) : State :=
  let rises := s.chan.fan.ch.flags &&& stallBit == 0 && s.cfg.channels.maskF &&& stallBit != 0
  raiseIf rises .fanStall (sendNotice (flagCondition .fan stallBit s))

/-- STALL_DETECTED (R46). -/
def execStallDetected (s : State) : Host.Outcome State Fault Refusal :=
  whenOn s fun s => if hasRun s.chan.fan.stallFrom (sec 5) s.clock.now then settle (stallFound s) else s

/-- A heater forced off by HEAT_INH# (R54). -/
def inhibitHeater (x : Heater) : Heater :=
  { x with base := 0, ch := { x.ch with applied := 0, state := if x.ch.state = .lockedOff then .lockedOff else .inhibited } }

/-- HEAT_INH# falls (R54), in its order; a release that was being judged ends (R55). -/
def inhibitHeaters (s : State) : State :=
  allocateNow
    (syncSwitches
      { s with
        chan.inhibit := true, chan.inhRise := none
        chan.h0 := inhibitHeater s.chan.h0, chan.h1 := inhibitHeater s.chan.h1 })

/-- HEAT_INH_ASSERT; without effect where HEAT_INH# is low already. -/
def execHeatInhAssert (s : State) : Host.Outcome State Fault Refusal :=
  if s.pins.heatInhLow then .next s
  else whenOn { s with pins.heatInhLow := true } fun s => settle (inhibitHeaters s)

/-- HEAT_INH_RISE: the release is judged from here (R55). -/
def execHeatInhRise (s : State) : Host.Outcome State Fault Refusal :=
  if s.pins.heatInhLow then
    whenOn { s with pins.heatInhLow := false } fun s =>
      { s with chan.inhRise := if s.chan.inhibit then some s.clock.now else none }
  else .next s

/-- A heater released from HEAT_INH# (R55). -/
def releaseHeater (x : Heater) : Heater :=
  if x.ch.state = .inhibited then { x with base := 0, ch := { x.ch with applied := 0, state := .off } } else x

/-- Whether HEAT_INH# has been high for 100 ms (R55). -/
def releaseDue (s : State) : Bool := s.chan.inhibit && hasRun s.chan.inhRise (ms 100) s.clock.now

/-- The release of HEAT_INH# (R55). -/
def releaseHeaters (s : State) : State :=
  allocateNow
    { s with
      chan.inhibit := false, chan.inhRise := none
      chan.h0 := releaseHeater s.chan.h0, chan.h1 := releaseHeater s.chan.h1 }

/-- HEAT_INH_RELEASE. -/
def execHeatInhRelease (s : State) : Host.Outcome State Fault Refusal :=
  whenOn s fun s => if releaseDue s then settle (releaseHeaters s) else s

end Sys2Proof.Machine
end

