-- ==== Sys2Proof/Machine/CommandEvents.lean ====
section
/-! DEFINITION. The command rows: each is the arrival on the C-port of that good command frame from the computer (R82, R84, R143). -/

namespace Sys2Proof.Machine

/-- GET_STATUS. -/
def execGetStatus (p : List Byte) (s : State) : Host.Outcome State Fault Refusal :=
  whenOn s (commandArrives (fun _ => cmdGetStatus p))

/-- GET_CAUSE. -/
def execGetCause (p : List Byte) (s : State) : Host.Outcome State Fault Refusal :=
  whenOn s (commandArrives (fun _ => cmdGetCause p))

/-- SET_CAUSE_ENABLES. -/
def execSetCauseEnables (p : List Byte) (s : State) : Host.Outcome State Fault Refusal :=
  whenOn s (commandArrives (fun _ => cmdSetCauseEnables p))

/-- SET_TIME. -/
def execSetTime (p : List Byte) (s : State) : Host.Outcome State Fault Refusal :=
  whenOn s (commandArrives (fun _ => cmdSetTime p))

/-- GET_HISTORY. -/
def execGetHistory (p : List Byte) (s : State) : Host.Outcome State Fault Refusal :=
  whenOn s (commandArrives (fun _ => cmdGetHistory p))

/-- PULSE. -/
def execPulse (p : List Byte) (s : State) : Host.Outcome State Fault Refusal :=
  whenOn s (commandArrives (fun _ => cmdPulse p))

/-- GET_LINK_COUNTERS. -/
def execGetLinkCounters (p : List Byte) (s : State) : Host.Outcome State Fault Refusal :=
  whenOn s (commandArrives (fun _ => cmdGetLinkCounters p))

/-- CLEAR_COUNTERS. -/
def execClearCounters (p : List Byte) (s : State) : Host.Outcome State Fault Refusal :=
  whenOn s (commandArrives (fun _ => cmdClearCounters p))

/-- SET_PASS_ENTRY. -/
def execSetPassEntry (p : List Byte) (s : State) : Host.Outcome State Fault Refusal :=
  whenOn s (commandArrives (fun _ => cmdSetPassEntry p))

/-- GET_PASS_ENTRY. -/
def execGetPassEntry (p : List Byte) (s : State) : Host.Outcome State Fault Refusal :=
  whenOn s (commandArrives (fun _ => cmdGetPassEntry p))

/-- SET_ANSWER. -/
def execSetAnswer (p : List Byte) (s : State) : Host.Outcome State Fault Refusal :=
  whenOn s (commandArrives (fun _ => cmdSetAnswer p))

/-- GET_ANSWER. -/
def execGetAnswer (p : List Byte) (s : State) : Host.Outcome State Fault Refusal :=
  whenOn s (commandArrives (fun _ => cmdGetAnswer p))

/-- SET_DEFAULT_ACTIONS. -/
def execSetDefaultActions (p : List Byte) (s : State) : Host.Outcome State Fault Refusal :=
  whenOn s (commandArrives (fun _ => cmdSetDefaultActions p))

/-- SET_THERMAL. -/
def execSetThermal (p : List Byte) (s : State) : Host.Outcome State Fault Refusal :=
  whenOn s (commandArrives (fun _ => cmdSetThermal p))

/-- GET_THERMAL. -/
def execGetThermal (p : List Byte) (s : State) : Host.Outcome State Fault Refusal :=
  whenOn s (commandArrives (fun _ => cmdGetThermal p))

/-- SET_BUDGET. -/
def execSetBudget (p : List Byte) (s : State) : Host.Outcome State Fault Refusal :=
  whenOn s (commandArrives (fun _ => cmdSetBudget p))

/-- GET_CHANNEL_DIAG. -/
def execGetChannelDiag (p : List Byte) (s : State) : Host.Outcome State Fault Refusal :=
  whenOn s (commandArrives (fun _ => cmdGetChannelDiag p))

/-- CLEAR_CHANNEL_LOCK. -/
def execClearChannelLock (p : List Byte) (s : State) : Host.Outcome State Fault Refusal :=
  whenOn s (commandArrives (fun _ => cmdClearChannelLock p))

/-- SET_KEYPAD. -/
def execSetKeypad (p : List Byte) (s : State) : Host.Outcome State Fault Refusal :=
  whenOn s (commandArrives (fun _ => cmdSetKeypad p))

/-- SET_WATCHDOG. -/
def execSetWatchdog (p : List Byte) (s : State) : Host.Outcome State Fault Refusal :=
  whenOn s (commandArrives (fun _ => cmdSetWatchdog p))

/-- SUSPEND_WATCHDOG. -/
def execSuspendWatchdog (p : List Byte) (s : State) : Host.Outcome State Fault Refusal :=
  whenOn s (commandArrives (fun _ => cmdSuspendWatchdog p))

/-- RESUME_WATCHDOG. -/
def execResumeWatchdog (p : List Byte) (s : State) : Host.Outcome State Fault Refusal :=
  whenOn s (commandArrives (fun _ => cmdResumeWatchdog p))

/-- ARM_RESTART. -/
def execArmRestart (p : List Byte) (s : State) : Host.Outcome State Fault Refusal :=
  whenOn s (commandArrives (fun _ => cmdArmRestart p))

/-- RESTART. -/
def execRestart (p : List Byte) (s : State) : Host.Outcome State Fault Refusal :=
  whenOn s (commandArrives (fun armed => cmdRestart p armed))

/-- SET_KEYMAP. -/
def execSetKeymap (p : List Byte) (s : State) : Host.Outcome State Fault Refusal :=
  whenOn s (commandArrives (fun _ => cmdSetKeymap p))

/-- SET_CHORD. -/
def execSetChord (p : List Byte) (s : State) : Host.Outcome State Fault Refusal :=
  whenOn s (commandArrives (fun _ => cmdSetChord p))

/-- STORE_SETTINGS. -/
def execStoreSettings (p : List Byte) (s : State) : Host.Outcome State Fault Refusal :=
  whenOn s (commandArrives (fun _ => cmdStoreSettings p))

/-- UNKNOWN_COMMAND: the frame is taken by its class (R143, R144). -/
def execUnknownCommand (cls : Byte) (p : List Byte) (s : State) : Host.Outcome State Fault Refusal :=
  whenOn s (goodFrame .c (mkFrame ownNode computerNode cls p))

end Sys2Proof.Machine
end

