-- ==== Sys2Proof/Machine/KeypadEvents.lean ====
section
/-! DEFINITION. The commands of the keypad scanner (chapter 8): the scan pass, and the moments within a pass that the opcode table names as
rows of their own.

A moment within a pass, commanded by itself, is carried out when the record stands one pass short of it; log entry 5. -/

namespace Sys2Proof.Machine

/-- SCAN_PASS (R125). -/
def execScanPass (m : Matrix) (s : State) : Host.Outcome State Fault Refusal := whenOn s fun s => settle (scan m s)

/-- One key moved on by itself where it is ready, and its event offered (R138), its cold flag by the extension in force (R129). A position
beyond 47 has no key. -/
def moveKey (p : Nat) (ready : Key → Bool) (act : Key → Key × Option Made) (s : State) : State :=
  match s.keys.keys[p]? with
  | none => s
  | some k =>
    if ready k then
      settle
        (offerMade p (keymapAt s.cfg.keymap p).code (act k).2 (coldNow s) (coldNow s)
          { s with keys.keys := s.keys.keys.set p (act k).1 })
    else s

/-- PRESS (R127, R132): a PRESS_PENDING key, neither ambiguous nor of code 0, whose elapsed reaches Tpress_eff. -/
def execPress (p : Nat) (s : State) : Host.Outcome State Fault Refusal :=
  whenOn s fun s =>
    let ent := keymapAt s.cfg.keymap p
    moveKey p
      (fun k => k.state == .pressPending && !k.ambiguous && ent.code != 0 && decide (pressEff s ≤ k.pending + 5))
      (pressKey ent) s

/-- RELEASE (R128): a RELEASE_PENDING key whose elapsed reaches Trel_eff. -/
def execRelease (p : Nat) (s : State) : Host.Outcome State Fault Refusal :=
  whenOn s fun s =>
    moveKey p (fun k => k.state == .releasePending && !k.ambiguous && decide (relEff s ≤ k.pending + 5)) releaseKey s

/-- STUCK (R130): a key that is down and whose held time reaches T_stuck. -/
def execStuck (p : Nat) (s : State) : Host.Outcome State Fault Refusal :=
  whenOn s fun s =>
    moveKey p (fun k => k.isDown && !k.ambiguous && reachesStuck s.cfg.keypad (runHeld k.held))
      (fun k => stickKey { k with held := runHeld k.held }) s

/-- STUCK_CLEAR (R130): a STUCK key that has read open for Trel_eff. -/
def execStuckClear (p : Nat) (s : State) : Host.Outcome State Fault Refusal :=
  whenOn s fun s =>
    moveKey p (fun k => k.state == .stuck && !k.ambiguous && decide (relEff s ≤ k.pending + 5))
      (fun k => (restKey k, none)) s

/-- REPEAT (R131): a repeating key in DOWN whose repeat time reaches the next REPEAT. -/
def execKeyRepeat (p : Nat) (s : State) : Host.Outcome State Fault Refusal :=
  whenOn s fun s =>
    moveKey p
      (fun k => k.state == .down && k.repeating && !k.ambiguous && decide (repeatDue s.cfg.keypad k ≤ k.repeatTime + 5))
      (fun k => repeatKey { k with held := runHeld k.held }) s

/-- Whether a chord stands one pass short of its firing (R135, R136). -/
def chordReady (i : Nat) (c : ChordRun) (s : State) : Bool :=
  let d := chordAt s i
  c.state == .holding && d.count != 0 && isHeld s.keys.keys d && inPhaseSet d.phases s.ctl.phase
    && decide (d.holdMs ≤ c.elapsed + 5)

/-- CHORD_FIRE (R136): SPENT, the CHORD event, and the action handed on. The SPENT chord's hold elapsed is the hold time itself, also where that is
no multiple of the 5 ms step (DESIGN CHOICE, log entry 44). -/
def execChordFire (i : Nat) (s : State) : Host.Outcome State Fault Refusal :=
  whenOn s fun s =>
    match s.keys.chords[i]? with
    | none => s
    | some c =>
      if chordReady i c s then
        settle
          (handFirings [(chordAt s i).action]
            (offerChord i
              { s with keys.chords := s.keys.chords.set i { state := .spent, elapsed := (chordAt s i).holdMs } }))
      else s

/-- KEY_DELIVERY (R140, R139). -/
def execKeyDelivery (s : State) : Host.Outcome State Fault Refusal := whenOn s deliverKey

end Sys2Proof.Machine
end

