-- ==== Sys2Proof/Machine/LinkEvents.lean ====
section
/-! DEFINITION. The commands of the link unit (chapter 5). -/

namespace Sys2Proof.Machine

/-- FRAME_RECEIVED: the assembly holds this frame whole, and it is judged (R79, R82). -/
def execFrameReceived (p : PortId) (f : Frame) (s : State) : Host.Outcome State Fault Refusal :=
  whenOn s (receive p (frameBytes f))

/-- LENGTH_ABORT: the length byte taken after the four header bytes of an assembly (R78, R79). -/
def execLengthAbort (p : PortId) (n : Byte) (s : State) : Host.Outcome State Fault Refusal :=
  whenOn s fun s =>
    if (portOf p s).assembly.length = 4 ∧ 32 < n.toNat then receive p ((portOf p s).assembly ++ [n]) s else s

/-- Whether the gap after a frame's last byte has passed 5 ms (R78). A byte ends the gap at its own end, when it is taken: DESIGN CHOICE, log entry 42. -/
def gapDue (p : PortId) (s : State) : Bool :=
  !(portOf p s).assembly.isEmpty && decide ((portOf p s).lastByte + ms 5 < s.clock.now)

/-- FRAME_GAP_TIMEOUT. -/
def execFrameGapTimeout (p : PortId) (s : State) : Host.Outcome State Fault Refusal :=
  whenOn s fun s => if gapDue p s then emptyAssembly p (countOn p Counters.incTimeout s) else s

/-- Whether a C-port BREAK is judged, for a low period that began with the fall of RX at `fell` (R80): RX has been low for 20 ms, measured
from the fall, or from the release of PC_RST# where RX was low already then, and no BREAK was judged in this low period. -/
def breakDue (fell : Nat) (s : State) : Bool :=
  decide (max fell s.link.rxFrom + ms 20 ≤ s.clock.now) && s.link.rxJudged != some fell

/-- BREAK (R80): a link reset on the C-port while PC_RST# is released, else nothing; then the test of R150 and the deliveries
of R140. -/
def execRxBreak (low : LowPeriod) (s : State) : Host.Outcome State Fault Refusal :=
  whenOn s fun s =>
    match low.port with
    | .c =>
      if s.lines.pcRst then s
      else if breakDue low.fell s then settle (linkReset { s with link.rxJudged := some low.fell })
      else s
    | .b => s

/-- TRANSMIT_START. -/
def execTransmitStart (p : PortId) (s : State) : Host.Outcome State Fault Refusal := whenOn s (startFrame p)

/-- TRANSMIT_COMPLETE: the transmitter is free, and starts the next frame where it can (R76). The row is the last byte's going, whenever it is
commanded: DESIGN CHOICE, log entry 10. -/
def execTransmitComplete (p : PortId) (s : State) : Host.Outcome State Fault Refusal :=
  whenOn s fun s =>
    if (portOf p s).sending.isSome then startFrame p (setPort p { portOf p s with sending := none } s) else s

/-- A port's RDY_IN as it now stands. -/
def setRdyIn (p : PortId) (asserted : Bool) (s : State) : State :=
  match p with
  | .c => { s with pins.rdyC := asserted }
  | .b => { s with pins.rdyB := asserted }

/-- A port after a change of its RDY_IN (R87): asserted, the port ceases to be STALLED; the stall timer is judged again; and a free
transmitter starts a frame where it can (R76). -/
def rdyChanges (p : PortId) (s : State) : State :=
  let s := if rdyIn p s then setPort p { portOf p s with stalled := false } s else s
  startFrame p (syncStall p s)

/-- RDY_IN_CHANGE. -/
def execRdyInChange (p : PortId) (asserted : Bool) (s : State) : Host.Outcome State Fault Refusal :=
  whenOn (setRdyIn p asserted s) (rdyChanges p)

/-- Whether a port's stall timer has reached 500 ms (R87). -/
def stallDue (p : PortId) (s : State) : Bool := !(portOf p s).stalled && hasRun (portOf p s).stallFrom (ms 500) s.clock.now

/-- The entry to STALLED of a port (R87, R88). -/
def stallPort (p : PortId) (s : State) : State :=
  match p with
  | .c => stallC s
  | .b => stallB s

/-- PORT_STALLED. -/
def execPortStalled (p : PortId) (s : State) : Host.Outcome State Fault Refusal :=
  whenOn s fun s => if stallDue p s then settle (raise .linkFault (stallPort p s)) else s

/-- BYTE_RECEIVED: a character with its stop bit low is not taken as a byte (R75). -/
def execByteReceived (p : PortId) (b : Byte) (stopHigh : Bool) (s : State) : Host.Outcome State Fault Refusal :=
  whenOn s fun s => if stopHigh then receive p ((portOf p s).assembly ++ [b]) s else s

end Sys2Proof.Machine
end

