-- ==== Sys2Proof/Machine/PhaseEvents.lean ====
section
/-! DEFINITION. The commands of the phase controller and the supply: power-on reset and brown-out, PWRGOOD, and the controller's timers
(chapters 1 and 10). -/

namespace Sys2Proof.Machine

/-- The image area as a power-on reset finds it: part of an erase or a write, and so not good, where programming ran (R155). -/
def areaAtReset (s : State) : Option Image := if s.store.programming.isSome then none else s.store.area

/-- The power-on reset (R6, R153): the store loaded, every block started from it, and PREHEAT entered. The pins stand as they are
and the waiting commands stay. -/
def powerOn (rateHigh : Bool) (s : State) : State :=
  let area := areaAtReset s
  let loaded := goodSettings area
  enterPreheat
    { State.cold (loaded.getD Settings.factory) s.pins rateHigh
        { area := area, shadow := loaded, programming := none, capture := none }
        (if loaded.isSome then 0 else causeBit .settingsDefaulted) with
      pending := s.pending, pace := s.pace, draw := s.draw }

/-- POWER_ON_RESET. -/
def execPowerOnReset (rateHigh : Bool) (s : State) : Host.Outcome State Fault Refusal := .next (powerOn rateHigh s)

/-- The supply below its range (R1, R155): PC_RST# asserted and PWR_EN off, and a store in progress cut short. -/
def supplyLost (s : State) : State :=
  let s := powerOff (assertReset s)
  { s with
    powered := false
    store := { s.store with area := areaAtReset s, programming := none, capture := none } }

/-- BROWN_OUT. -/
def execBrownOut (s : State) : Host.Outcome State Fault Refusal := whenOn s supplyLost

/-- Whether the warm-up limit timer has run out in PREHEAT (R7, R9). -/
def warmUpDue (s : State) : Bool :=
  match s.ctl.warmUp with
  | .running expiry => s.ctl.phase == .preheat && decide (expiry ≤ s.clock.now)
  | .stopped | .expired => false

/-- The expiry acted on by the policy in force (R9). -/
def warmUpExpires (s : State) : State :=
  match s.cfg.sensing.policy with
  | .bootAnyway =>
    enterPowerOn (raiseIf (s.sens.board.state == .failed || s.sens.display.state == .failed) .sensorFault s)
  | .keepHeating => { s with ctl.warmUp := .expired }

/-- WARM_UP_LIMIT_EXPIRY. -/
def execWarmUpLimitExpiry (s : State) : Host.Outcome State Fault Refusal :=
  whenOn s fun s => if warmUpDue s then warmUpExpires s else s

/-- Whether a phase runs the supply loss filter (R14, R15). -/
def watchesSupply : Phase → Bool
  | .boot | .run | .restart => true
  | .preheat | .powerOn | .powerCycle | .cooldown | .lockout => false

/-- PWRGOOD rises: the stability interval starts in POWER_ON (R12), the supply loss filter is abandoned (R14, R15). -/
def pwrgoodRises (s : State) : State :=
  { s with
    ctl.stability := if s.ctl.phase = .powerOn then some s.clock.now else none
    ctl.supplyLoss := none }

/-- PWRGOOD falls: the stability interval is abandoned (R12), the supply loss filter starts (R14, R15). -/
def pwrgoodFalls (s : State) : State :=
  { s with
    ctl.stability := none
    ctl.supplyLoss := if watchesSupply s.ctl.phase then some s.clock.now else none }

/-- PWRGOOD_RISE; without effect where PWRGOOD is high already. -/
def execPwrgoodRise (s : State) : Host.Outcome State Fault Refusal :=
  if s.pins.pwrgood then .next s else whenOn { s with pins.pwrgood := true } pwrgoodRises

/-- PWRGOOD_FALL; without effect where PWRGOOD is low already. -/
def execPwrgoodFall (s : State) : Host.Outcome State Fault Refusal :=
  if s.pins.pwrgood then whenOn { s with pins.pwrgood := false } pwrgoodFalls else .next s

/-- Whether the stability interval is complete (R12). -/
def stabilityDue (s : State) : Bool := s.ctl.phase == .powerOn && hasRun s.ctl.stability (ms 100) s.clock.now

/-- PWRGOOD_STABILITY_COMPLETE. -/
def execPwrgoodStabilityComplete (s : State) : Host.Outcome State Fault Refusal :=
  whenOn s fun s => if stabilityDue s then enterBoot s else s

/-- Whether the PWRGOOD wait has run out (R12). -/
def waitDue (s : State) : Bool := s.ctl.phase == .powerOn && hasRun s.ctl.wait (sec 2) s.clock.now

/-- PWRGOOD_WAIT_EXPIRY: the stability interval is abandoned and SUPPLY_FAIL requested. -/
def execPwrgoodWaitExpiry (s : State) : Host.Outcome State Fault Refusal :=
  whenOn s fun s =>
    if waitDue s then request .supplyFail { s with ctl.wait := none, ctl.stability := none } else s

/-- Whether the supply loss filter is complete (R14, R15). -/
def supplyLossDue (s : State) : Bool := watchesSupply s.ctl.phase && hasRun s.ctl.supplyLoss (ms 50) s.clock.now

/-- SUPPLY_LOSS_FILTER_EXPIRY: one request in a low period. -/
def execSupplyLossFilterExpiry (s : State) : Host.Outcome State Fault Refusal :=
  whenOn s fun s => if supplyLossDue s then request .supplyLoss { s with ctl.supplyLoss := none } else s

/-- Whether the reset pulse has ended (R17). -/
def resetPulseDue (s : State) : Bool := s.ctl.phase == .restart && hasRun s.ctl.resetPulse (ms 200) s.clock.now

/-- RESET_PULSE_END. -/
def execResetPulseEnd (s : State) : Host.Outcome State Fault Refusal :=
  whenOn s fun s => if resetPulseDue s then enterBoot s else s

/-- Whether the off time has ended (R18). -/
def offTimeDue (s : State) : Bool := s.ctl.phase == .powerCycle && hasRun s.ctl.offTime (sec 10) s.clock.now

/-- OFF_TIME_END. -/
def execOffTimeEnd (s : State) : Host.Outcome State Fault Refusal :=
  whenOn s fun s => if offTimeDue s then enterPreheat s else s

/-- Whether the overlay has been shown for its second (R25). -/
def overlayDue (s : State) : Bool := s.ctl.overlay.isSome && decide (s.ctl.overlayFrom + sec 1 ≤ s.clock.now)

/-- OVERLAY_END: the base pattern of the phase in force starts from its beginning (R25). -/
def execOverlayEnd (s : State) : Host.Outcome State Fault Refusal :=
  whenOn s fun s => if overlayDue s then { s with ctl.overlay := none, ctl.ledFrom := s.clock.now } else s

end Sys2Proof.Machine
end

