-- ==== Sys2Proof/Machine/SensorEvents.lean ====
section
/-! DEFINITION. The commands of the sensor unit: the sample (R26), and the moments within a sample that the opcode table names as rows
of their own.

A moment within a sample, commanded by itself, is carried out when the record stands one sample short of it; log entry 5. -/

namespace Sys2Proof.Machine

/-- SENSOR_SAMPLE. -/
def execSensorSample (a d b : RawCode) (s : State) : Host.Outcome State Fault Refusal :=
  whenOn s fun s => settle (sample a d b s)

/-- SENSOR_FAILED (R29, R30): the fourth faulty sample in a row. -/
def execSensorFailed (i : SensorId) (s : State) : Host.Outcome State Fault Refusal :=
  whenOn s fun s =>
    let x := sensorOf i s
    if x.state ≠ .failed ∧ 4 ≤ x.faultyRun + 1 then settle (formReadings (updateSensor i (failSensor x) s)) else s

/-- SENSOR_RECOVERED (R31): the twentieth valid sample in a row. -/
def execSensorRecovered (i : SensorId) (code : RawCode) (s : State) : Host.Outcome State Fault Refusal :=
  whenOn s fun s =>
    let x := sensorOf i s
    if x.state = .failed ∧ 20 ≤ x.validRun + 1 ∧ sampleKind code = .valid then
      formReadings (updateSensor i (validSensor (convert code (trimOf i s)) x) s)
    else s

/-- SOAK_COMPLETE (R36, R8): the sample at which the soak elapsed reaches T_soak. -/
def execSoakComplete (s : State) : Host.Outcome State Fault Refusal :=
  whenOn s fun s =>
    let g := s.sens.gate
    if g.satisfied = true ∧ g.complete = false ∧ s.cfg.sensing.tSoak * 1000 ≤ g.soakMs + 250 then
      settle (completeSoak { s with sens.gate := { g with soakMs := g.soakMs + 250, span := s.cfg.sensing.tSoak } })
    else s

/-- OVERHEAT_DWELL_EXPIRY (R20): the sample at which the dwell reaches 10 s. -/
def execOverheatDwellExpiry (s : State) : Host.Outcome State Fault Refusal :=
  whenOn s fun s =>
    if s.ctl.phase ≠ .cooldown ∧ 10000 ≤ s.sens.dwellMs + 250 then settle (overheat s) else s

/-- COOLING_DEGRADED_SET (R56): the sample at which the set dwell reaches 120 s. -/
def execCoolingDegradedSet (s : State) : Host.Outcome State Fault Refusal :=
  whenOn s fun s =>
    let c := s.chan.cooling
    if c.degraded = false ∧ 120000 ≤ c.setMs + 250 then
      settle (setDegraded { s with chan.cooling.setMs := 120000, chan.cooling.clearMs := 0 })
    else s

/-- COOLING_DEGRADED_CLEAR (R56): the sample at which the clear dwell reaches 120 s. -/
def execCoolingDegradedClear (s : State) : Host.Outcome State Fault Refusal :=
  whenOn s fun s =>
    let c := s.chan.cooling
    if c.degraded = true ∧ 120000 ≤ c.clearMs + 250 then
      { s with chan.cooling := { degraded := false, setMs := 0, clearMs := 120000 } }
    else s

end Sys2Proof.Machine
end

