-- ==== Sys2Proof/Machine/StoreEvents.lean ====
section
/-! DEFINITION. The notice unit's sending (R150) and the end of a store (R155). -/

namespace Sys2Proof.Machine

/-- NOTICE_SEND (R150). -/
def execNoticeSend (s : State) : Host.Outcome State Fault Refusal := whenOn s sendNotice

/-- The store after programming whose read-back matched (R155). The capture, which the manual does not follow past the programming, is empty:
DESIGN CHOICE, log entry 37. -/
def Store.done (c : Settings) : Store := { area := some (imageOf c), shadow := some c, programming := none, capture := none }

/-- The store after programming whose read-back differed: the shadow written back where there is one and its own read-back matches,
else the area left erased (R155). The capture is empty: log entry 37. -/
def Store.failed (x : Store) (restoreMatches : Bool) : Store :=
  match x.shadow with
  | none => { area := none, shadow := none, programming := none, capture := none }
  | some old =>
    if restoreMatches then { area := some (imageOf old), shadow := some old, programming := none, capture := none }
    else { area := none, shadow := none, programming := none, capture := none }

/-- PROGRAMMING_END (R155), while a store is in progress. -/
def execProgrammingEnd (readBack restoreReadBack : Bool) (s : State) : Host.Outcome State Fault Refusal :=
  whenOn s fun s =>
    match s.store.programming, s.store.capture with
    | some _, some c =>
      if readBack then settle (raise .storeDone { s with store := Store.done c })
      else settle (raise .storeFailed { s with store := s.store.failed restoreReadBack })
    | _, _ => s

end Sys2Proof.Machine
end

