-- ==== Sys2Proof/Machine/SupervisorEvents.lean ====
section
/-! DEFINITION. The restart supervisor's own timers (chapter 7). -/

namespace Sys2Proof.Machine

/-- The cause of an expiry by the deadline's state (R113); none where the deadline does not run (R112). -/
def deadlineCause : DeadlineState → Option RestartCause
  | .bootWindow => some .bootTimeout
  | .heartbeat => some .heartbeatTimeout
  | .stopped | .suspended => none

/-- Whether the deadline has expired (R113). -/
def deadlineDue (s : State) : Bool := (deadlineCause s.sup.deadline).isSome && decide (s.sup.expiry ≤ s.clock.now)

/-- DEADLINE_EXPIRY (R113): the deadline stops, and the request is taken at once. -/
def execDeadlineExpiry (s : State) : Host.Outcome State Fault Refusal :=
  whenOn s fun s =>
    if deadlineDue s then
      match deadlineCause s.sup.deadline with
      | none => s
      | some c => request c { s with sup.deadline := .stopped }
    else s

/-- Whether the suspension has expired (R115). -/
def suspensionDue (s : State) : Bool :=
  s.sup.deadline == .suspended &&
    match s.sup.suspension with
    | none => false
    | some x => decide (x.expiry ≤ s.clock.now)

/-- SUSPENSION_EXPIRY (R115): the heartbeat deadline starts from the suspension's expiry, and SUSPEND_EXPIRED is raised. -/
def execSuspensionExpiry (s : State) : Host.Outcome State Fault Refusal :=
  whenOn s fun s =>
    if suspensionDue s then
      match s.sup.suspension with
      | none => s
      | some x => settle (raise .suspendExpired (endSuspension x.expiry s))
    else s

/-- Whether the restart arm has expired (R116). -/
def armDue (s : State) : Bool :=
  match s.sup.arm with
  | none => false
  | some e => decide (e ≤ s.clock.now)

/-- ARM_EXPIRY. -/
def execArmExpiry (s : State) : Host.Outcome State Fault Refusal :=
  whenOn s fun s => if armDue s then { s with sup.arm := none } else s

end Sys2Proof.Machine
end

