-- ==== Sys2Proof/Machine/Clock.lean ====
section
/-! DEFINITION. The part's own clock: what falls due by itself, and what a step does while no command waits.

The opcode table has no row for a tick of the clock. An idle step lets time pass up to the next instant at which a timer falls due, and
puts the rows of the timers that are due into the queue. DESIGN CHOICE, log entries 3 and 4. -/

namespace Sys2Proof.Machine

/-- The row of a timer that started at an instant, with the instant at which it falls due. -/
def dueAfter (start : Option Nat) (span : Nat) (c : Instr) : List (Nat × Instr) :=
  match start with
  | none => []
  | some t => [(t + span, c)]

/-- A row that falls due when a condition holds. -/
def dueIf (b : Bool) (at_ : Nat) (c : Instr) : List (Nat × Instr) := if b then [(at_, c)] else []

/-- The phase controller's timers (R2, R25). -/
def phaseAlarms (s : State) : List (Nat × Instr) :=
  (match s.ctl.warmUp with
    | .running expiry => dueIf (s.ctl.phase == .preheat) expiry .warmUpLimitExpiry
    | .stopped | .expired => [])
  ++ (if s.ctl.phase = .powerOn then
        dueAfter s.ctl.stability (ms 100) .pwrgoodStabilityComplete ++ dueAfter s.ctl.wait (sec 2) .pwrgoodWaitExpiry
      else [])
  ++ (if watchesSupply s.ctl.phase then dueAfter s.ctl.supplyLoss (ms 50) .supplyLossFilterExpiry else [])
  ++ (if s.ctl.phase = .restart then dueAfter s.ctl.resetPulse (ms 200) .resetPulseEnd else [])
  ++ (if s.ctl.phase = .powerCycle then dueAfter s.ctl.offTime (sec 10) .offTimeEnd else [])
  ++ dueIf s.ctl.overlay.isSome (s.ctl.overlayFrom + sec 1) .overlayEnd

/-- The sample, the scan pass and the 1 s timer (R26, R60, R125), reading the pins as they stand. -/
def periodicAlarms (s : State) : List (Nat × Instr) :=
  [(s.sens.sampleAt + ms 250, .sensorSample s.pins.air s.pins.display s.pins.board),
   (s.keys.scanAt + ms 5, .scanPass s.pins.matrix),
   (s.bud.periodAt + sec 1, .budgetTimerExpiry)]

/-- A channel's overcurrent filter and its trips' ages (R47). -/
def channelAlarms (c : ChannelId) (s : State) : List (Nat × Instr) :=
  let x := channelOf c s
  dueAfter x.overFrom (filterTime c s) (.overcurrentTrip c)
  ++ (if x.state = .lockedOff then [] else dueAfter x.trips.head? (sec 60) (.tripAgeOut c))

/-- A heater's on-time and its two diagnostics (R43, R49, R50). -/
def heaterAlarms (h : HeaterId) (s : State) : List (Nat × Instr) :=
  let x := heaterOf h s
  dueIf (x.ch.on && decide (x.ch.applied < 64)) (s.bud.periodAt + onTime x.ch.applied) (.heaterOnTimeEnd h)
  ++ (if hasCondition openLoadBit x.ch then dueAfter x.goodFrom (ms 50) (.openLoadCleared h)
      else dueAfter x.openFrom (ms 50) (.openLoadDetected h))
  ++ (if hasCondition shortBit x.ch then dueAfter x.lowFrom (ms 50) (.shortToSupplyCleared h)
      else dueAfter x.shortFrom (ms 50) (.shortToSupplyDetected h))

/-- The fan's tach and stall, and the release of HEAT_INH# (R45, R46, R55). -/
def fanAlarms (s : State) : List (Nat × Instr) :=
  dueAfter s.chan.fan.lastPulse (sec 1) .tachTimeout
  ++ (if hasCondition stallBit s.chan.fan.ch then [] else dueAfter s.chan.fan.stallFrom (sec 5) .stallDetected)
  ++ (if s.chan.inhibit then dueAfter s.chan.inhRise (ms 100) .heatInhRelease else [])

/-- A port's gap, transmitter and stall timer (R76, R78, R87). -/
def portAlarms (p : PortId) (s : State) : List (Nat × Instr) :=
  let x := portOf p s
  dueIf (!x.assembly.isEmpty) (x.lastByte + ms 5 + 1) (.frameGapTimeout p)
  ++ dueIf (canStart p s) s.clock.now (.transmitStart p)
  ++ (match x.sending with
      | none => []
      | some f => [(f.since + frameTime s.link.rateHigh f.frame, .transmitComplete p)])
  ++ (if x.stalled then [] else dueAfter x.stallFrom (ms 500) (.portStalled p))

/-- The supervisor's timers (R113, R115, R116). -/
def supervisorAlarms (s : State) : List (Nat × Instr) :=
  dueIf (deadlineCause s.sup.deadline).isSome s.sup.expiry .deadlineExpiry
  ++ (if s.sup.deadline = .suspended then dueAfter (s.sup.suspension.map Suspension.expiry) 0 .suspensionExpiry else [])
  ++ dueAfter s.sup.arm 0 .armExpiry

/-- The end of a store, 60 ms after its acceptance at the latest (R155); its outcomes are free (log entry 7). -/
def storeAlarms (s : State) : List (Nat × Instr) :=
  if s.store.capture.isSome then
    dueAfter s.store.programming (ms 60)
      (.programmingEnd (Config.readBackMatches s.draw) (Config.readBackMatches (s.draw + 1)))
  else []

/-- Everything that falls due by itself, each with its instant. -/
def alarms (s : State) : List (Nat × Instr) :=
  phaseAlarms s ++ periodicAlarms s ++ channelAlarms .h0 s ++ channelAlarms .h1 s ++ channelAlarms .fan s
    ++ heaterAlarms .h0 s ++ heaterAlarms .h1 s ++ fanAlarms s ++ portAlarms .c s ++ portAlarms .b s
    ++ supervisorAlarms s ++ storeAlarms s
    ++ dueIf (keyDue s) s.clock.now .keyDelivery ++ dueIf (noticeDue s) s.clock.now .noticeSend

/-- The rows that are due by an instant. -/
def dueNow (now : Nat) (l : List (Nat × Instr)) : List Instr := (l.filter fun a => decide (a.1 ≤ now)).map Prod.snd

/-- A row put into a list at a place, or at its end where the list is shorter. -/
def putAt (c : Instr) : Nat → List Instr → List Instr
  | _, [] => [c]
  | 0, x :: xs => c :: x :: xs
  | n + 1, x :: xs => x :: putAt c n xs

/-- Rows that are due together in an order the manual leaves open; log entry 3. -/
def arrange (draw : Nat) : List Instr → List Instr
  | [] => []
  | c :: rest => putAt c (Config.dueOrder draw rest.length) (arrange draw rest)

/-- The span to the next instant at which something falls due, `pace` at most. -/
def spanToNext (now pace : Nat) (l : List (Nat × Instr)) : Nat := l.foldl (fun d a => min d (a.1 - now)) pace

/-- What a step does on an empty queue: below the operating range nothing; else the chord firings that wait are taken, or the rows that are due
join the queue, or, where there are none, time goes on. -/
def idle (s : State) : State :=
  if s.powered then
    if s.ctl.firings ≠ [] then settle (takeAllFirings s)
    else match dueNow s.clock.now (alarms s) with
    | [] => elapse (spanToNext s.clock.now s.pace (alarms s)) s
    | l => { s with pending := arrange s.draw l, draw := s.draw + 2 }
  else s

end Sys2Proof.Machine
end

