-- ==== Sys2Proof/Machine/Dispatch.lean ====
section
/-! DEFINITION. Every command's meaning, one arm for each constructor of `Instr`. -/

namespace Sys2Proof.Machine

/-- The effect of a command on everything but the queue. -/
def exec (i : Instr) (s : State) : Host.Outcome State Fault Refusal :=
  match i with
  | .powerOnReset rateHigh => Sys2Proof.Machine.execPowerOnReset rateHigh s
  | .warmUpLimitExpiry => Sys2Proof.Machine.execWarmUpLimitExpiry s
  | .pwrgoodRise => Sys2Proof.Machine.execPwrgoodRise s
  | .pwrgoodFall => Sys2Proof.Machine.execPwrgoodFall s
  | .pwrgoodStabilityComplete => Sys2Proof.Machine.execPwrgoodStabilityComplete s
  | .pwrgoodWaitExpiry => Sys2Proof.Machine.execPwrgoodWaitExpiry s
  | .supplyLossFilterExpiry => Sys2Proof.Machine.execSupplyLossFilterExpiry s
  | .resetPulseEnd => Sys2Proof.Machine.execResetPulseEnd s
  | .offTimeEnd => Sys2Proof.Machine.execOffTimeEnd s
  | .overlayEnd => Sys2Proof.Machine.execOverlayEnd s
  | .sensorSample air display board => Sys2Proof.Machine.execSensorSample air display board s
  | .sensorFailed sensor => Sys2Proof.Machine.execSensorFailed sensor s
  | .sensorRecovered sensor code => Sys2Proof.Machine.execSensorRecovered sensor code s
  | .soakComplete => Sys2Proof.Machine.execSoakComplete s
  | .overheatDwellExpiry => Sys2Proof.Machine.execOverheatDwellExpiry s
  | .coolingDegradedSet => Sys2Proof.Machine.execCoolingDegradedSet s
  | .coolingDegradedClear => Sys2Proof.Machine.execCoolingDegradedClear s
  | .budgetTimerExpiry => Sys2Proof.Machine.execBudgetTimerExpiry s
  | .budgetLimited => Sys2Proof.Machine.execBudgetLimited s
  | .heaterOnTimeEnd heater => Sys2Proof.Machine.execHeaterOnTimeEnd heater s
  | .comparatorChange channel cmp reports => Sys2Proof.Machine.execComparatorChange channel cmp reports s
  | .overcurrentTrip channel => Sys2Proof.Machine.execOvercurrentTrip channel s
  | .tripAgeOut channel => Sys2Proof.Machine.execTripAgeOut channel s
  | .openLoadDetected heater => Sys2Proof.Machine.execOpenLoadDetected heater s
  | .openLoadCleared heater => Sys2Proof.Machine.execOpenLoadCleared heater s
  | .shortToSupplyDetected heater => Sys2Proof.Machine.execShortToSupplyDetected heater s
  | .shortToSupplyCleared heater => Sys2Proof.Machine.execShortToSupplyCleared heater s
  | .tachPulse => Sys2Proof.Machine.execTachPulse s
  | .tachTimeout => Sys2Proof.Machine.execTachTimeout s
  | .stallDetected => Sys2Proof.Machine.execStallDetected s
  | .heatInhAssert => Sys2Proof.Machine.execHeatInhAssert s
  | .heatInhRise => Sys2Proof.Machine.execHeatInhRise s
  | .heatInhRelease => Sys2Proof.Machine.execHeatInhRelease s
  | .frameReceived port frame => Sys2Proof.Machine.execFrameReceived port frame s
  | .lengthAbort port length => Sys2Proof.Machine.execLengthAbort port length s
  | .frameGapTimeout port => Sys2Proof.Machine.execFrameGapTimeout port s
  | .rxBreak low => Sys2Proof.Machine.execRxBreak low s
  | .transmitStart port => Sys2Proof.Machine.execTransmitStart port s
  | .transmitComplete port => Sys2Proof.Machine.execTransmitComplete port s
  | .rdyInChange port asserted => Sys2Proof.Machine.execRdyInChange port asserted s
  | .portStalled port => Sys2Proof.Machine.execPortStalled port s
  | .deadlineExpiry => Sys2Proof.Machine.execDeadlineExpiry s
  | .suspensionExpiry => Sys2Proof.Machine.execSuspensionExpiry s
  | .armExpiry => Sys2Proof.Machine.execArmExpiry s
  | .scanPass closed => Sys2Proof.Machine.execScanPass closed s
  | .press position => Sys2Proof.Machine.execPress position s
  | .release position => Sys2Proof.Machine.execRelease position s
  | .stuck position => Sys2Proof.Machine.execStuck position s
  | .stuckClear position => Sys2Proof.Machine.execStuckClear position s
  | .keyRepeat position => Sys2Proof.Machine.execKeyRepeat position s
  | .chordFire chord => Sys2Proof.Machine.execChordFire chord s
  | .keyDelivery => Sys2Proof.Machine.execKeyDelivery s
  | .noticeSend => Sys2Proof.Machine.execNoticeSend s
  | .programmingEnd readBack restoreReadBack => Sys2Proof.Machine.execProgrammingEnd readBack restoreReadBack s
  | .getStatus payload => Sys2Proof.Machine.execGetStatus payload s
  | .getCause payload => Sys2Proof.Machine.execGetCause payload s
  | .setCauseEnables payload => Sys2Proof.Machine.execSetCauseEnables payload s
  | .setTime payload => Sys2Proof.Machine.execSetTime payload s
  | .getHistory payload => Sys2Proof.Machine.execGetHistory payload s
  | .pulse payload => Sys2Proof.Machine.execPulse payload s
  | .getLinkCounters payload => Sys2Proof.Machine.execGetLinkCounters payload s
  | .clearCounters payload => Sys2Proof.Machine.execClearCounters payload s
  | .setPassEntry payload => Sys2Proof.Machine.execSetPassEntry payload s
  | .getPassEntry payload => Sys2Proof.Machine.execGetPassEntry payload s
  | .setAnswer payload => Sys2Proof.Machine.execSetAnswer payload s
  | .getAnswer payload => Sys2Proof.Machine.execGetAnswer payload s
  | .setDefaultActions payload => Sys2Proof.Machine.execSetDefaultActions payload s
  | .setThermal payload => Sys2Proof.Machine.execSetThermal payload s
  | .getThermal payload => Sys2Proof.Machine.execGetThermal payload s
  | .setBudget payload => Sys2Proof.Machine.execSetBudget payload s
  | .getChannelDiag payload => Sys2Proof.Machine.execGetChannelDiag payload s
  | .clearChannelLock payload => Sys2Proof.Machine.execClearChannelLock payload s
  | .setKeypad payload => Sys2Proof.Machine.execSetKeypad payload s
  | .setWatchdog payload => Sys2Proof.Machine.execSetWatchdog payload s
  | .suspendWatchdog payload => Sys2Proof.Machine.execSuspendWatchdog payload s
  | .resumeWatchdog payload => Sys2Proof.Machine.execResumeWatchdog payload s
  | .armRestart payload => Sys2Proof.Machine.execArmRestart payload s
  | .restart payload => Sys2Proof.Machine.execRestart payload s
  | .setKeymap payload => Sys2Proof.Machine.execSetKeymap payload s
  | .setChord payload => Sys2Proof.Machine.execSetChord payload s
  | .storeSettings payload => Sys2Proof.Machine.execStoreSettings payload s
  | .unknownCommand cls payload => Sys2Proof.Machine.execUnknownCommand cls payload s
  | .byteReceived port byte stopHigh => Sys2Proof.Machine.execByteReceived port byte stopHigh s
  | .brownOut => Sys2Proof.Machine.execBrownOut s

end Sys2Proof.Machine
end

