-- ==== Sys2Proof/Safety.lean ====
section
/-! DEFINITION. What a safe run of the part is: the rules that hold between its blocks in every state it reaches, and the terms the
statements use. -/

namespace Sys2Proof.Machine

/-! ## Invariants -/

/-- The computer's lines follow the phase (R1); below the operating range they are held off and asserted. -/
def LinesFollowPhase (s : State) : Prop :=
  if s.powered then s.lines.pwrEn = pwrEnPhase s.ctl.phase ∧ s.lines.pcRst = !releasedPhase s.ctl.phase
  else s.lines.pwrEn = false ∧ s.lines.pcRst = true

/-- Each timer of the phase controller runs in its own phase alone, and the one that a phase cannot do without runs there (R2). -/
def TimersFollowPhase (s : State) : Prop :=
  (s.ctl.warmUp = .stopped ↔ s.ctl.phase ≠ .preheat)
  ∧ (s.ctl.wait.isSome = true ↔ s.ctl.phase = .powerOn)
  ∧ (s.ctl.stability.isSome = true → s.ctl.phase = .powerOn)
  ∧ (s.ctl.supplyLoss.isSome = true → watchesSupply s.ctl.phase = true)
  ∧ (s.ctl.resetPulse.isSome = true ↔ s.ctl.phase = .restart)
  ∧ (s.ctl.offTime.isSome = true ↔ s.ctl.phase = .powerCycle)

/-- The deadline, the suspension and the restart arm follow the phase (R112, R115, R116). -/
def SupervisorFollowsPhase (s : State) : Prop :=
  (match s.ctl.phase with
    | .boot => s.sup.deadline = .bootWindow
    | .run => s.sup.deadline = .heartbeat ∨ s.sup.deadline = .suspended
    | .preheat | .powerOn | .restart | .powerCycle | .cooldown | .lockout => s.sup.deadline = .stopped)
  ∧ (s.sup.suspension.isSome = true ↔ s.sup.deadline = .suspended)
  ∧ (s.sup.arm.isSome = true → releasedPhase s.ctl.phase = true)

/-- The frame queues, the key event queue and the history stay within their sizes (R83, R84, R121, R138); a STALLED port holds none of the
frames it sheds (R87, R88); out of RUN no key event waits (R139) and no NOTICE is outstanding (R150); in reset no frame waits for the computer (R89). -/
def QueuesInBounds (s : State) : Prop :=
  s.link.down.length ≤ 8
  ∧ (s.link.b.stalled = true → s.link.down = [])
  ∧ s.link.up.length ≤ 12
  ∧ rankCount .notice s ≤ 1
  ∧ rankCount .key s ≤ 4
  ∧ (s.link.c.stalled = true → rankCount .forwarded s = 0)
  ∧ s.keys.queue.length ≤ 16
  ∧ (s.ctl.phase ≠ .run → s.keys.queue = [] ∧ s.keys.loss = false ∧ s.note.outstanding = false)
  ∧ (s.powered = true → s.lines.pcRst = true → s.link.up = [])
  ∧ s.sup.history.length ≤ 8

/-- A counted RESET record (R119, R121). -/
def isCountedReset (r : RestartRecord) : Bool := isCounted r.cause && r.action == .reset

/-- The counted RESET records of the history after the floor whose stamps lie in the escalation window that begins at `u`. -/
def resetsInWindow (u : Nat) (s : State) : Nat :=
  s.sup.history.countP fun r =>
    isCountedReset r && decide (s.sup.floor < r.uptime) && decide (u ≤ r.uptime)
      && decide (r.uptime ≤ u + s.cfg.watchdog.window * 60)

/-- Uptime is in its 32 bits (R3), no stamp lies ahead of it, and the history never holds K counted RESET records within one window and after the floor (R119). -/
def EscalationBounded (s : State) : Prop :=
  s.clock.uptime ≤ 4294967295 ∧ (∀ r ∈ s.sup.history, r.uptime ≤ s.clock.uptime) ∧ ∀ u, resetsInWindow u s < max 1 s.cfg.watchdog.k

/-- A pass entry that R103 accepts: an ACTIVE HEARTBEAT or CLAMP_LEVEL entry is DOWN with its offset in a frame, an ACTIVE ANSWER
entry names a record. -/
def PassDef.valid (d : PassDef) : Bool :=
  !d.active ||
    match d.action with
    | .forward | .drop => true
    | .heartbeat => d.direction == .down && (decide (d.tokenOffset.toNat ≤ 31) || d.tokenOffset == 0xFF)
    | .clampLevel => d.direction == .down && decide (d.levelOffset.toNat ≤ 31)
    | .answer => decide (d.answerIndex.toNat ≤ 7)

/-- An answer record that R102 accepts. -/
def Answer.valid (a : Answer) : Bool := decide (a.template.length ≤ 16) && liveFieldsFit a

/-- A chord definition that R134 accepts. -/
def ChordDef.valid (d : ChordDef) : Bool :=
  (d.count == 0 || d.count == 2 || d.count == 3) && d.members.all (fun m => decide (m ≤ 47)) && decide d.members.Nodup
    && decide (500 ≤ d.holdMs) && decide (d.holdMs ≤ 10000)

/-- A number within a range. -/
def within (lo hi n : Int) : Bool := decide (lo ≤ n) && decide (n ≤ hi)

/-- Settings as a block that clamps or refuses values outside their ranges holds them (R38, R57, R59, R91, R102, R103, R120, R134,
R141, R152). -/
def Settings.inRange (c : Settings) : Bool :=
  c.pass.length == 32 && c.pass.all PassDef.valid && decide (c.pass.countP isClamp ≤ 1)
  && c.answers.length == 8 && c.answers.all Answer.valid
  && c.keymap.length == 48
  && c.chords.length == 4 && c.chords.all ChordDef.valid
  && clampKeypad c.keypad == c.keypad
  && clampChannels c.channels == c.channels && decide (c.channels.tOn < c.channels.tFull)
  && clampSensing c.sensing == c.sensing
  && [c.budget.bTot, c.budget.rc, c.budget.p0, c.budget.p1, c.budget.pFan, c.budget.pBl, c.budget.lInit, c.budget.lCap].all
      (fun n => decide (n ≤ 255))
  && clampWatchdog c.watchdog == c.watchdog

/-- The settings in force, and every set the store holds, lie in their ranges (R152). -/
def SettingsInRange (s : State) : Prop :=
  s.cfg.inRange = true
  ∧ (∀ i, s.store.area = some i → i.settings.inRange = true)
  ∧ (∀ c, s.store.shadow = some c → c.inRange = true)
  ∧ (∀ c, s.store.capture = some c → c.inRange = true)

/-- A temperature within the window of R28. -/
def inWindow (t : Int) : Bool := within (-220) 500 t

/-- A sensor record as R29 to R32 keep it. -/
def Sensor.sound (x : Sensor) : Prop :=
  x.faultyRun ≤ 4 ∧ x.validRun < 20
  ∧ (∀ t, x.filtered = some t → inWindow t = true)
  ∧ (∀ t, x.reading = some t → inWindow t = true)
  ∧ (x.state = .starting → x.filtered = none)
  ∧ (x.state = .valid → x.filtered.isSome = true)
  ∧ (x.state = .failed ↔ x.faultyRun = 4)

/-- The sensor unit as R29 to R33 keep it. -/
def SensorsSound (s : State) : Prop :=
  s.sens.air.sound ∧ s.sens.display.sound ∧ s.sens.board.sound
  ∧ (∀ t, s.sens.effAir = some t → inWindow t = true)
  ∧ (∀ t, s.sens.effDisplay = some t → inWindow t = true)
  ∧ (∀ t, s.sens.effBoard = some t → inWindow t = true)

/-- The charges of an allocation together. -/
def Allocation.total (a : Allocation) : Nat := a.compCharge + a.fanCharge + a.h1Charge + a.blCharge + a.h0Charge

/-- A heater as R41, R42, R48 and R54 keep it: its ramp base is its applied duty, and it is off while it must be. -/
def heaterSound (s : State) (x : Heater) (grant : Nat) : Prop :=
  x.ch.applied ≤ grant ∧ x.ch.applied ≤ 64 ∧ x.base = x.ch.applied
  ∧ (x.ch.state = .lockedOff → x.ch.applied = 0)
  ∧ (s.chan.inhibit = true → x.ch.applied = 0 ∧ x.ch.state ≠ .active)
  ∧ (s.ctl.phase = .cooldown → x.ch.applied = 0)

/-- The charges stay within the budget (R65), and no channel runs beyond its grant (R42). -/
def PowerInBudget (s : State) : Prop :=
  s.bud.last.total ≤ s.cfg.budget.bTot
  ∧ heaterSound s s.chan.h0 s.bud.last.h0Grant
  ∧ heaterSound s s.chan.h1 s.bud.last.h1Grant
  ∧ s.chan.fan.ch.applied ≤ s.bud.last.fanGrant
  ∧ s.chan.fan.ch.applied ≤ 64
  ∧ (s.chan.fan.ch.state = .lockedOff → s.chan.fan.ch.applied = 0)

/-! ## Terms of the statements -/

/-- A step or a command answers a next state, and that state has the property. -/
def Nexts (o : Host.Outcome State Fault Refusal) (P : State → Prop) : Prop := ∃ t, o = .next t ∧ P t

/-- The part is powered and the phase is the one named. -/
def InPhase (p : Phase) (s : State) : Prop := s.powered = true ∧ s.ctl.phase = p

/-- A timer runs, and its span has passed since it started. -/
def HasRun (timer : Option Nat) (span : Nat) (s : State) : Prop := timer.any (fun t0 => t0 + span ≤ s.clock.now) = true

/-- A frame of the part's own as it stands in the upstream queue. -/
def upFrame (r : Rank) (cls : Byte) (payload : List Byte) : UpFrame :=
  { frame := mkFrame 0x01 0x0F cls payload, rank := r }

/-- The C-port's stall timer once a frame waits for it (R87). -/
def stallFromWhenWaiting (s : State) : Option Nat :=
  if s.pins.rdyC = false ∧ s.link.c.stalled = false then some (s.link.c.stallFrom.getD s.clock.now) else none

/-- What a command that is taken and answered leaves, beside its own effect: the C-port's GOOD count up by one, the restart arm clear,
and the reply at the end of the upstream queue (R82, R116, R143). -/
def replied (cls : Byte) (payload : List Byte) (s : State) : State :=
  { s with
    link.c.counters.good := min 65535 (s.link.c.counters.good + 1)
    link.c.stallFrom := stallFromWhenWaiting s
    link.up := s.link.up ++ [upFrame .reply (cls + 0x80) payload]
    sup.arm := none }

/-- The states in which a command frame reaches the command processor (R82, R84). -/
def TakesCommands (s : State) : Prop := s.powered = true ∧ s.lines.pcRst = false ∧ s.link.up.length ≤ 11

/-- The codes of the keys that are down with their delivering flag set, in position order (R137). -/
def heldCodes (s : State) : List Byte :=
  (List.range s.keys.keys.length).filterMap fun p =>
    (s.keys.keys[p]?).bind fun k =>
      if (k.state = .down ∨ k.state = .releasePending) ∧ k.delivering = true then some ((s.cfg.keymap[p]?).elim 0 KeymapEntry.code)
      else none

/-! ## Frames

`s.deliveredAs t` and the like are `s` with the fields that an event may change taken from `t`: the equation `t = s.deliveredAs t` says that
nothing else changed. -/

/-- `s` with what a NOTICE and the KEY deliveries change: the upstream queue and its stall timer, the key event queue and loss flag, and
the notice-outstanding flag (R139, R140, R150). -/
def State.deliveredAs (s t : State) : State :=
  { s with
    link.up := t.link.up
    link.c.stallFrom := t.link.c.stallFrom
    keys.queue := t.keys.queue
    keys.loss := t.keys.loss
    note.outstanding := t.note.outstanding }

/-- `t` agrees with `s` in everything but what a NOTICE and the KEY deliveries change. -/
def SameButDeliveries (s t : State) : Prop := t = s.deliveredAs t

/-- A channel with what an allocation and its switches change (R42, R43, R47). -/
def Channel.allocatedAs (x y : Channel) : Channel :=
  { x with
    demand := y.demand, offered := y.offered, applied := y.applied, state := y.state, on := y.on, overFrom := y.overFrom }

/-- A channel with what its switch or drive changes (R43, R47). -/
def Channel.switchedAs (x y : Channel) : Channel := { x with on := y.on, overFrom := y.overFrom }

/-- A heater with what its switch changes: the measurements of R47, R49 and R50. -/
def Heater.switchedAs (x y : Heater) : Heater :=
  { x with
    ch := x.ch.switchedAs y.ch, openFrom := y.openFrom, goodFrom := y.goodFrom, shortFrom := y.shortFrom, lowFrom := y.lowFrom }

/-- `s` with what the switches and the fan drive change: whether they conduct, and the measurements that go by it (R43, R46, R47, R49, R50). -/
def State.switchedAs (s t : State) : State :=
  { s with
    chan.h0 := s.chan.h0.switchedAs t.chan.h0
    chan.h1 := s.chan.h1.switchedAs t.chan.h1
    chan.fan := { s.chan.fan with ch := s.chan.fan.ch.switchedAs t.chan.fan.ch, stallFrom := t.chan.fan.stallFrom } }

/-- A heater with what an allocation changes: its channel, ramp base and measurements (R41 to R43, R49, R50). -/
def Heater.allocatedAs (x y : Heater) : Heater := { y with ch := x.ch.allocatedAs y.ch }

/-- `s` with what an allocation changes: duties and switches, the last-allocation record, the limited run, the level frames of the part's
own with the backlight record's account of them, and BUDGET_LIMITED (R61 to R69). -/
def State.allocatedAs (s t : State) : State :=
  { s with
    chan.h0 := s.chan.h0.allocatedAs t.chan.h0
    chan.h1 := s.chan.h1.allocatedAs t.chan.h1
    chan.fan := { s.chan.fan with
      ch := s.chan.fan.ch.allocatedAs t.chan.fan.ch, running := t.chan.fan.running, stallFrom := t.chan.fan.stallFrom }
    bud.last := t.bud.last
    bud.limitedRun := t.bud.limitedRun
    bud.back := { t.bud.back with
      lReq := s.bud.back.lReq, template := s.bud.back.template, levelOffset := s.bud.back.levelOffset }
    link.down := t.link.down
    link.b.stallFrom := t.link.b.stallFrom
    link.b.counters.stallDiscard := t.link.b.counters.stallDiscard
    note.pending := s.note.pending ||| (t.note.pending &&& causeBit .budgetLimited) }

/-- `s` with what a phase entry changes: phase, lines, timers and indicator, the supervision that ends with the phase left, the upstream
queue and the key event queue, and an allocation (R2, R16, R89, R112, R115, R116, R139, R150). -/
def State.enteredAs (s t : State) : State :=
  { (s.allocatedAs t).deliveredAs t with
    clock.timeInPhase := 0
    clock.phaseAt := s.clock.now
    lines := t.lines
    ctl := { t.ctl with overlay := s.ctl.overlay, overlayFrom := s.ctl.overlayFrom, firings := s.ctl.firings }
    sup.arm := t.sup.arm
    sup.deadline := t.sup.deadline
    sup.suspension := t.sup.suspension }

/-- A command answered, and the NOTICE and KEY deliveries that follow it: the reply joins the queue behind what stood there and, by the model's choice
where R151 does not say so (log entry 6), ahead of them. -/
def AnsweredThenDelivered (cls : Byte) (payload : List Byte) (s t : State) : Prop :=
  t = (replied cls payload s).deliveredAs t ∧ (s.link.up ++ [upFrame .reply (cls + 0x80) payload]) <+: t.link.up

/-! ## Phase entries -/

/-- The duties applied are the grants of the last allocation (R42). -/
def GrantsApplied (t : State) : Prop :=
  t.chan.h0.ch.applied = t.bud.last.h0Grant ∧ t.chan.h1.ch.applied = t.bud.last.h1Grant
  ∧ t.chan.fan.ch.applied = t.bud.last.fanGrant

/-- `t` holds the outcome of one allocation made in a phase on the rest of `s`, the reserve charged or not (R60, R61): the channels, the budget unit
with the backlight record, the level frame sent, and BUDGET_LIMITED. -/
def AllocatedIn (p : Phase) (reserve : Bool) (s t : State) : Prop :=
  let v := allocate reserve { s with ctl.phase := p }
  t.chan = v.chan ∧ t.bud = v.bud ∧ t.link.down = v.link.down ∧ t.link.b = v.link.b
  ∧ isPending .budgetLimited t = isPending .budgetLimited v

/-- What every phase entry leaves in the controller (R2): the phase, the timers of other phases stopped, and the base pattern begun unless an
overlay is showing. -/
def Entered (p : Phase) (s t : State) : Prop :=
  t.ctl.phase = p
  ∧ (p ≠ .preheat → t.ctl.warmUp = .stopped)
  ∧ (p ≠ .powerOn → t.ctl.wait = none ∧ t.ctl.stability = none)
  ∧ (p ≠ .boot → p ≠ .run → p ≠ .restart → t.ctl.supplyLoss = none)
  ∧ (p ≠ .restart → t.ctl.resetPulse = none)
  ∧ (p ≠ .powerCycle → t.ctl.offTime = none)
  ∧ t.ctl.ledFrom = (if s.ctl.overlay.isSome then s.ctl.ledFrom else s.clock.now)

/-- What an entry that leaves RUN ends: the key events and the loss flag (R139), the suspension (R115) and the notice-outstanding flag (R150). An entry
from any other phase leaves them as they stand. -/
def RunEnded (s t : State) : Prop :=
  if s.ctl.phase = .run then t.keys.queue = [] ∧ t.keys.loss = false ∧ t.sup.suspension = none ∧ t.note.outstanding = false
  else t.keys.queue = s.keys.queue ∧ t.keys.loss = s.keys.loss ∧ t.sup.suspension = s.sup.suspension ∧ t.note.outstanding = s.note.outstanding

/-- POWER_ON entered from `s` (R11, R12): the allocation with the reserve charged and its duties applied, then PWR_EN on, then the two timers. -/
def PowerOnEntered (s t : State) : Prop :=
  Entered .powerOn s t
  ∧ t = s.enteredAs t
  ∧ AllocatedIn .powerOn true s t
  ∧ t.bud.last.compCharge = min s.cfg.budget.rc s.cfg.budget.bTot
  ∧ GrantsApplied t
  ∧ t.lines.moves = [.dutiesLowered, .pwrEnOn]
  ∧ t.lines.pwrEn = true ∧ t.lines.pcRst = s.lines.pcRst
  ∧ t.ctl.wait = some s.clock.now
  ∧ t.ctl.stability = (if s.pins.pwrgood then some s.clock.now else none)
  ∧ t.ctl.originLockout = s.ctl.originLockout
  ∧ t.sup.arm = none ∧ t.sup.deadline = .stopped

/-- A phase with PWR_EN off entered from `s` (R16, R60, R89): PC_RST# asserted, then PWR_EN off, the upstream queue emptied, an allocation
without the reserve, and what RUN had going ended where RUN is left. -/
def OffEntered (p : Phase) (s t : State) : Prop :=
  Entered p s t
  ∧ t = s.enteredAs t
  ∧ AllocatedIn p false s t
  ∧ t.bud.last.compCharge = 0
  ∧ GrantsApplied t
  ∧ t.lines.moves = (if s.lines.pcRst then [] else [.pcRstAsserted]) ++ (if s.lines.pwrEn then [.pwrEnOff] else [])
  ∧ t.lines.pwrEn = false ∧ t.lines.pcRst = true
  ∧ t.link.up = [] ∧ t.link.c.stallFrom = none
  ∧ t.sup.arm = none ∧ t.sup.deadline = .stopped
  ∧ RunEnded s t

/-- PREHEAT entered from `s`, and left at its entry where the soak is complete (R7, R8). -/
def PreheatEntered (s t : State) : Prop :=
  if s.sens.gate.complete then
    t.ctl.phase = .powerOn ∧ t = s.enteredAs t ∧ AllocatedIn .powerOn true (allocate false { s with ctl.phase := .preheat }) t
    ∧ t.lines.moves = [.dutiesLowered, .pwrEnOn] ∧ t.ctl.wait = some s.clock.now
    ∧ t.bud.last.compCharge = min s.cfg.budget.rc s.cfg.budget.bTot ∧ t.link.up = [] ∧ RunEnded s t
  else
    OffEntered .preheat s t
    ∧ t.ctl.warmUp = .running (s.clock.now + s.cfg.sensing.warmUpLimit * 60000000)
    ∧ t.ctl.originLockout = s.ctl.originLockout

/-- The phase that an action enters (R16). -/
def RestartAction.phase : RestartAction → Phase
  | .reset => .restart
  | .powerCycle => .powerCycle
  | .cooldown => .cooldown
  | .lockout => .lockout

end Sys2Proof.Machine
end

