-- ==== Sys2Proof/WellFormed.lean ====
section
/-! DEFINITION. Which commands the outside world can send: the bounds the manual puts on their operands. -/

namespace Sys2Proof

/-- A payload that one frame can carry (R157). -/
def payloadFits (p : List Byte) : Bool := p.length ≤ 32

/-- The classes in 40h to 5Fh that name no command (R144). -/
def unusedClasses : List Byte := [0x4D, 0x4E, 0x4F, 0x56, 0x57]

/-- A command whose operands lie in the ranges the manual gives: a payload of at most 32 bytes (R157), a position
below 48 and a chord below 4 (chapter 8), a length field above 32 for a length abort (R79), and an unused class
for an unknown command (R144). -/
def Instr.wf : Instr → Bool
  | .frameReceived _ f => payloadFits f.payload
  | .lengthAbort _ n => decide (32 < n.toNat)
  | .press p | .release p | .stuck p | .stuckClear p | .keyRepeat p => decide (p < 48)
  | .chordFire c => decide (c < 4)
  | .getStatus p | .getCause p | .setCauseEnables p | .setTime p | .getHistory p | .pulse p
  | .getLinkCounters p | .clearCounters p | .setPassEntry p | .getPassEntry p | .setAnswer p
  | .getAnswer p | .setDefaultActions p | .setThermal p | .getThermal p | .setBudget p
  | .getChannelDiag p | .clearChannelLock p | .setKeypad p | .setWatchdog p | .suspendWatchdog p
  | .resumeWatchdog p | .armRestart p | .restart p | .setKeymap p | .setChord p
  | .storeSettings p => payloadFits p
  | .unknownCommand cls p => unusedClasses.contains cls && payloadFits p
  | .powerOnReset _ | .warmUpLimitExpiry | .pwrgoodRise | .pwrgoodFall | .pwrgoodStabilityComplete
  | .pwrgoodWaitExpiry | .supplyLossFilterExpiry | .resetPulseEnd | .offTimeEnd | .overlayEnd
  | .sensorSample _ _ _ | .sensorFailed _ | .sensorRecovered _ _ | .soakComplete
  | .overheatDwellExpiry | .coolingDegradedSet | .coolingDegradedClear | .budgetTimerExpiry
  | .budgetLimited | .heaterOnTimeEnd _ | .comparatorChange _ _ _ | .overcurrentTrip _
  | .tripAgeOut _ | .openLoadDetected _ | .openLoadCleared _ | .shortToSupplyDetected _
  | .shortToSupplyCleared _ | .tachPulse | .tachTimeout | .stallDetected | .heatInhAssert
  | .heatInhRise | .heatInhRelease | .frameGapTimeout _ | .rxBreak _ | .transmitStart _
  | .transmitComplete _ | .rdyInChange _ _ | .portStalled _ | .deadlineExpiry | .suspensionExpiry
  | .armExpiry | .scanPass _ | .keyDelivery | .noticeSend | .programmingEnd _ _
  | .byteReceived _ _ _ | .brownOut => true

end Sys2Proof
end

