-- ==== Sys2Proof/Certificates/Slice0/Obligations.lean ====
section
/-! DEFINITION. The statements about the model, for the provers, listed in OBLIGATIONS.json.

Numbers are the manual's own: microseconds for spans, cause bits, class bytes and result codes as R144, R149 and R157 to R160 give them. -/

open Sys2Proof Sys2Proof.Machine

/-! ## The step and the clock -/

/-- A step takes the command at the front of the queue and runs it on the state whose queue is the rest. -/
def Obligations.StepTakesTheFrontCommand : Prop :=
  ∀ (c : Instr) (rest : List Instr) (s : State), step { s with pending := c :: rest } = exec c { s with pending := rest }

/-- While no command waits, an idle step (the model's own, log entries 3 and 4) takes the chord firings that wait (log entry 32), or puts every row
that is due into the queue with no time passing, or, where none is due, lets time pass to the next alarm, or by the full pace where none stands nearer;
below the operating range it changes nothing. And what is an alarm: each row of the part's own with the instant at which its timer runs out, by the
rules that give the spans (R7, R12, R14, R15, R17, R18, R25, R26, R43, R45 to R50, R55, R60, R75, R76, R78, R87, R113, R115, R116, R125, R140, R150, R155,
R157). That a store ends at 60 ms with free outcomes (log entry 7), the whole microseconds of a frame and of the 5 ms gap (log entry 14), and
TRANSMIT_START, KEY_DELIVERY and NOTICE_SEND as rows due at once (log entry 19) are the model's. -/
def Obligations.IdleStepOvertakesNoAlarm : Prop :=
  (∀ s : State, s.pending = [] →
    (s.powered = false → step s = .next s)
    ∧ (s.powered = true → s.ctl.firings ≠ [] → Nexts (step s) (SameButDeliveries (takeFirings s.ctl.firings.length s)))
    ∧ (s.powered = true → s.ctl.firings = [] → Nexts (step s) fun t =>
        let due := dueNow s.clock.now (alarms s)
        (due ≠ [] → t = { s with pending := t.pending, draw := s.draw + 2 } ∧ t.pending.Perm due)
        ∧ (due = [] → t = elapse (t.clock.now - s.clock.now) s ∧ s.clock.now ≤ t.clock.now ∧ t.clock.now ≤ s.clock.now + s.pace
            ∧ (∀ a ∈ alarms s, t.clock.now ≤ a.1)
            ∧ (t.clock.now = s.clock.now + s.pace ∨ ∃ a ∈ alarms s, t.clock.now = a.1))))
  ∧ ∀ (s : State) (at_ : Nat) (c : Instr),
    let after (start : Option Nat) (span : Nat) : Prop := ∃ t0, start = some t0 ∧ at_ = t0 + span
    let cold (r : Option Int) : Nat := if r.any (fun T => 0 ≤ T) then 2000 else 100000
    let filter (i : ChannelId) : Nat := if i = .h0 then cold s.sens.effBoard else if i = .h1 then cold s.sens.effDisplay else 2000
    let present (x : Channel) (bit : BitVec 3) : Prop := x.conds &&& bit ≠ 0
    let rate := if s.link.rateHigh then 460800 else 115200
    (at_, c) ∈ alarms s ↔
      (c = .warmUpLimitExpiry ∧ s.ctl.phase = .preheat ∧ s.ctl.warmUp = .running at_)
      ∨ (c = .pwrgoodStabilityComplete ∧ s.ctl.phase = .powerOn ∧ after s.ctl.stability 100000)
      ∨ (c = .pwrgoodWaitExpiry ∧ s.ctl.phase = .powerOn ∧ after s.ctl.wait 2000000)
      ∨ (c = .supplyLossFilterExpiry ∧ s.ctl.phase ∈ [.boot, .run, .restart] ∧ after s.ctl.supplyLoss 50000)
      ∨ (c = .resetPulseEnd ∧ s.ctl.phase = .restart ∧ after s.ctl.resetPulse 200000)
      ∨ (c = .offTimeEnd ∧ s.ctl.phase = .powerCycle ∧ after s.ctl.offTime 10000000)
      ∨ (c = .overlayEnd ∧ s.ctl.overlay ≠ none ∧ at_ = s.ctl.overlayFrom + 1000000)
      ∨ (c = .sensorSample s.pins.air s.pins.display s.pins.board ∧ at_ = s.sens.sampleAt + 250000)
      ∨ (c = .scanPass s.pins.matrix ∧ at_ = s.keys.scanAt + 5000)
      ∨ (c = .budgetTimerExpiry ∧ at_ = s.bud.periodAt + 1000000)
      ∨ (∃ i : ChannelId, c = .overcurrentTrip i ∧ after (channelOf i s).overFrom (filter i))
      ∨ (∃ i : ChannelId, c = .tripAgeOut i ∧ (channelOf i s).state ≠ .lockedOff ∧ after (channelOf i s).trips.head? 60000000)
      ∨ (∃ h : HeaterId, let x := heaterOf h s
          (c = .heaterOnTimeEnd h ∧ x.ch.on = true ∧ x.ch.applied < 64 ∧ at_ = s.bud.periodAt + x.ch.applied * 15625)
          ∨ (c = .openLoadCleared h ∧ present x.ch 2 ∧ after x.goodFrom 50000)
          ∨ (c = .openLoadDetected h ∧ ¬ present x.ch 2 ∧ after x.openFrom 50000)
          ∨ (c = .shortToSupplyCleared h ∧ present x.ch 4 ∧ after x.lowFrom 50000)
          ∨ (c = .shortToSupplyDetected h ∧ ¬ present x.ch 4 ∧ after x.shortFrom 50000))
      ∨ (c = .tachTimeout ∧ after s.chan.fan.lastPulse 1000000)
      ∨ (c = .stallDetected ∧ ¬ present s.chan.fan.ch 2 ∧ after s.chan.fan.stallFrom 5000000)
      ∨ (c = .heatInhRelease ∧ s.chan.inhibit = true ∧ after s.chan.inhRise 100000)
      ∨ (∃ p : PortId, let x := portOf p s
          (c = .frameGapTimeout p ∧ x.assembly ≠ [] ∧ at_ = x.lastByte + 5001)
          ∨ (c = .transmitStart p ∧ x.sending = none ∧ rdyIn p s = true ∧ holdsFrame p s = true ∧ at_ = s.clock.now)
          ∨ (∃ f, c = .transmitComplete p ∧ x.sending = some f
              ∧ at_ = f.since + ((7 + f.frame.payload.length) * 10 * 1000000 + (rate - 1)) / rate)
          ∨ (c = .portStalled p ∧ x.stalled = false ∧ after x.stallFrom 500000))
      ∨ (c = .deadlineExpiry ∧ s.sup.deadline ∈ [.bootWindow, .heartbeat] ∧ at_ = s.sup.expiry)
      ∨ (c = .suspensionExpiry ∧ s.sup.deadline = .suspended ∧ ∃ x, s.sup.suspension = some x ∧ at_ = x.expiry)
      ∨ (c = .armExpiry ∧ s.sup.arm = some at_)
      ∨ (c = .programmingEnd (Config.readBackMatches s.draw) (Config.readBackMatches (s.draw + 1)) ∧ s.store.capture ≠ none
          ∧ after s.store.programming 60000)
      ∨ (c = .keyDelivery ∧ s.ctl.phase = .run ∧ s.keys.queue ≠ [] ∧ s.link.up.countP (fun f => decide (f.rank = .key)) < 4
          ∧ s.link.up.length ≤ 10 ∧ at_ = s.clock.now)
      ∨ (c = .noticeSend ∧ s.ctl.phase = .run ∧ s.note.pending &&& s.cfg.enables ≠ 0 ∧ s.note.outstanding = false
          ∧ s.link.up.length ≤ 10 ∧ s.link.up.all (fun f => decide (f.rank ≠ .notice)) = true ∧ at_ = s.clock.now)

/-- R3 to R5: the time bases go on by whole seconds and milliseconds, in one stretch or in several, and no other state moves with them. -/
def Obligations.TimeBasesRunOn : Prop :=
  (∀ (d e : Nat) (s : State), elapse e (elapse d s) = elapse (d + e) s)
  ∧ ∀ (k : Nat) (s : State), s.clock.phaseAt ≤ s.clock.now →
      let t := elapse (k * 1000000) s
      t = { s with clock := { t.clock with phaseAt := s.clock.phaseAt } }
      ∧ t.clock.now = s.clock.now + k * 1000000
      ∧ t.clock.uptime = min 4294967295 (s.clock.uptime + k)
      ∧ t.clock.cabinet = s.clock.cabinet + BitVec.ofNat 32 (1000 * k)
      ∧ t.clock.timeInPhase = min 4294967295 (s.clock.timeInPhase + k)

/-! ## Power and the phases -/

/-- R6: what a power-on reset leaves, in whatever state it finds the part, block by block (R39, R58, R74, R90, R124, R142, R161). That the first
control period starts at the reset is the model's reading (log entry 15), and that an unused chord, which R142 does not list, starts ARMED with hold
elapsed 0 as a used one does is its choice (log entry 45). -/
def Obligations.PowerOnResetState : Prop :=
  ∀ (rateHigh : Bool) (s : State), Nexts (exec (.powerOnReset rateHigh) s) fun t =>
    t.powered = true ∧ t.ctl.phase = .preheat ∧ t.lines.pwrEn = false ∧ t.lines.pcRst = true
    ∧ t.clock = { now := 0, uptime := 0, cabinet := 0, timeInPhase := 0, phaseAt := 0 }
    ∧ t.ctl.warmUp = .running (t.cfg.sensing.warmUpLimit * 60000000)
    ∧ t.ctl.originLockout = false ∧ t.ctl.overlay = none ∧ t.ctl.ledFrom = 0
    ∧ (t.ctl.wait = none ∧ t.ctl.stability = none ∧ t.ctl.supplyLoss = none ∧ t.ctl.resetPulse = none ∧ t.ctl.offTime = none)
    ∧ t.bud.last.compCharge = 0 ∧ GrantsApplied t
    ∧ (let i : AllocInput :=
         { params := t.cfg.budget, reserve := false, dF := t.chan.fan.ch.offered, d1 := t.chan.h1.ch.offered, d0 := t.chan.h0.ch.offered,
           lReq := t.cfg.budget.lInit, degraded := false }
       t.bud = { last := allocationOf i, limitedRun := if isLimited i then 1 else 0, periodAt := 0
                 back := { lReq := t.cfg.budget.lInit, lFwd := t.cfg.budget.lInit, template := none, levelOffset := none, clamped := false
                           resend := false, ceiling := (allocationOf i).ceiling
                           unenforced := decide ((allocationOf i).ceiling < t.cfg.budget.lInit) } })
    ∧ (∀ x : Channel, x ∈ [t.chan.h0.ch, t.chan.h1.ch, t.chan.fan.ch] →
        x.holdOff = false ∧ x.trips = [] ∧ x.flags = 0 ∧ x.conds = 0 ∧ x.summary = false)
    ∧ (∀ x : Heater, x ∈ [t.chan.h0, t.chan.h1] → if s.pins.heatInhLow then x.ch.applied = 0 ∧ x.ch.state = .inhibited else x.ch.offered = 8)
    ∧ t.chan.inhibit = s.pins.heatInhLow ∧ t.chan.inhRise = none
    ∧ t.chan.fan.ch.offered = 64 ∧ t.chan.fan.running = false ∧ t.chan.fan.speed = 0 ∧ t.chan.fan.lastPulse = none
    ∧ t.chan.cooling = { degraded := false, setMs := 0, clearMs := 0 }
    ∧ (t.sens.air.state = .starting ∧ t.sens.display.state = .starting ∧ t.sens.board.state = .starting)
    ∧ t.sens.gate.satisfied = false ∧ t.sens.gate.complete = false ∧ t.sens.gate.since = none ∧ t.sens.gate.soakMs = 0
    ∧ (t.sens.effAir = none ∧ t.sens.effDisplay = none ∧ t.sens.effBoard = none ∧ t.sens.warnRaised = false ∧ t.sens.dwellMs = 0)
    ∧ (let x : Sensor := { state := .starting, faultyRun := 0, validRun := 0, reading := none, filtered := none }
       t.sens.air = x ∧ t.sens.display = x ∧ t.sens.board = x)
    ∧ t.sup = { deadline := .stopped, expiry := 0, firstHeartbeat := false, pulseToken := none,
                entryTokens := List.replicate 32 none, staleCount := 0, suspension := none, arm := none, floor := 0, history := [],
                openRecord := false, addedSinceRun := false }
    ∧ (t.link.down = [] ∧ t.link.up = [] ∧ t.link.rateHigh = rateHigh)
    ∧ t.link.c.counters = Counters.zero ∧ t.link.b.counters = Counters.zero ∧ t.pass = List.replicate 32 EntryCounts.zero
    ∧ (∀ x : Port, x ∈ [t.link.c, t.link.b] →
        x.assembly = [] ∧ x.sending = none ∧ x.stalled = false ∧ x.stallFrom = none
        ∧ x.counters = { good := 0, check := 0, length := 0, timeout := 0, misrouted := 0, overflow := 0, stallDiscard := 0, resetDiscard := 0 })
    ∧ t.keys.keys = List.replicate 48
        { raw := false, ambiguous := false, state := .up, pending := 0, held := 0, repeatTime := 0, repeats := 0, delivering := false
          repeating := false }
    ∧ t.keys.chords = List.replicate 4 { state := .armed, elapsed := 0 } ∧ t.keys.queue = [] ∧ t.keys.loss = false ∧ t.keys.scanAt = 0
    ∧ (t.note.outstanding = false ∧ t.note.statusPart2 = false)
    ∧ t.pins = s.pins ∧ t.pending = s.pending

/-- R1: below the operating range the computer's lines are held at PWR_EN off and PC_RST# asserted and LED is off. That every block keeps its state
there, and that no row but a power-on reset changes more than the pins, is the model's reading (log entry 11). -/
def Obligations.BrownOutHoldsTheLines : Prop :=
  (∀ s : State, s.powered = true → Nexts (exec .brownOut s) fun t =>
      t = { s with powered := false, lines := t.lines, store := t.store }
      ∧ t.lines.pwrEn = false ∧ t.lines.pcRst = true ∧ ledLit t = false
      ∧ t.store.programming = none ∧ t.store.capture = none ∧ t.store.shadow = s.store.shadow
      ∧ t.store.area = (if s.store.programming.isSome then none else s.store.area))
  ∧ ∀ (c : Instr) (s : State), s.powered = false → (∀ r, c ≠ .powerOnReset r) →
      Nexts (exec c s) fun t => t = { s with pins := t.pins }

/-- R8, R9, R18, R36: PREHEAT is left when the warm-up limit runs out under BOOT_ANYWAY and when the soak completes; the off time ends in it, or in
POWER_ON where the soak is already complete. SOAK_COMPLETE as a row of its own, one sample short of the soak, is the model's choice (log entry
5). -/
def Obligations.PreheatIsLeft : Prop :=
  (∀ (e : Nat) (s : State), InPhase .preheat s → s.ctl.warmUp = .running e → e ≤ s.clock.now →
    Nexts (exec .warmUpLimitExpiry s) fun t =>
      (s.cfg.sensing.policy = .keepHeating → t = { s with ctl.warmUp := .expired })
      ∧ (s.cfg.sensing.policy = .bootAnyway →
          PowerOnEntered
            (if s.sens.board.state = .failed ∨ s.sens.display.state = .failed then { s with note.pending := s.note.pending ||| 8#13 } else s) t))
  ∧ (∀ s : State, s.powered = true → s.sens.gate.satisfied = true → s.sens.gate.complete = false →
    s.cfg.sensing.tSoak * 1000 ≤ s.sens.gate.soakMs + 250 →
    Nexts (exec .soakComplete s) fun t =>
      let u := { s with sens.gate := { s.sens.gate with soakMs := s.sens.gate.soakMs + 250, complete := true, span := s.cfg.sensing.tSoak } }
      (s.ctl.phase = .preheat → PowerOnEntered u t) ∧ (s.ctl.phase ≠ .preheat → SameButDeliveries u t))
  ∧ (∀ s : State, InPhase .powerCycle s → HasRun s.ctl.offTime 10000000 s →
    Nexts (exec .offTimeEnd s) fun t => PreheatEntered s t)

/-- R16, R21: each action of the restart supervisor enters its phase from the phases the table names, with the lines moved in the order of R1, and is
not carried out from any other; from RUN it ends the suspension (R115), the key events (R139) and the outstanding NOTICE (R150); COOLDOWN is left at a sample once effective BOARD has fallen to T_trip less 40 q, by its origin. RESTART begins the
supply loss filter afresh, but for a filter that has run its 50 ms when RESTART is entered: its request arrives there (R15, R118; the model's reading, log entry 17). -/
def Obligations.ActionsAndCooldownExit : Prop :=
  (∀ (a : RestartAction) (s : State),
    let from_ : List Phase :=
      if a = .reset ∨ a = .lockout then [.powerOn, .boot, .run]
      else if a = .powerCycle then [.powerOn, .boot, .run, .restart]
      else [.preheat, .powerOn, .boot, .run, .restart, .powerCycle, .lockout]
    let t := carryOut a s
    (s.ctl.phase ∉ from_ → t = s)
    ∧ (s.ctl.phase ∈ from_ →
        (a = .reset → Entered .restart s t ∧ t = s.enteredAs t
          ∧ t.lines = { pwrEn := s.lines.pwrEn, pcRst := true, moves := if s.lines.pcRst then [] else [.pcRstAsserted] }
          ∧ t.ctl.resetPulse = some s.clock.now ∧ t.ctl.supplyLoss =
              (if s.pins.pwrgood then none
               else if s.ctl.supplyLoss.any fun t0 => t0 + 50000 ≤ s.clock.now then s.ctl.supplyLoss else some s.clock.now)
          ∧ t.link.up = [] ∧ t.chan = s.chan ∧ t.bud = s.bud ∧ RunEnded s t)
        ∧ (a = .powerCycle → OffEntered .powerCycle s t ∧ t.ctl.offTime = some s.clock.now)
        ∧ (a = .lockout → OffEntered .lockout s t ∧ t.ctl.originLockout = s.ctl.originLockout)
        ∧ (a = .cooldown → OffEntered .cooldown s t ∧ t.ctl.originLockout = decide (s.ctl.phase = .lockout)
            ∧ t.chan.h0.ch.applied = 0 ∧ t.chan.h1.ch.applied = 0
            ∧ t.chan.fan.ch.demand = (if s.chan.fan.ch.state = .lockedOff then 0 else 64))))
  ∧ (∀ s : State, s.ctl.phase = .cooldown →
    (s.sens.effBoard = none → cooldownExit s = s)
    ∧ ∀ b : Int, s.sens.effBoard = some b →
        (s.cfg.sensing.tTrip - 40 < b → cooldownExit s = s)
        ∧ (b ≤ s.cfg.sensing.tTrip - 40 →
            (s.ctl.originLockout = true → OffEntered .lockout s (cooldownExit s))
            ∧ (s.ctl.originLockout = false → PreheatEntered s (cooldownExit s))))

/-- R12 to R15, R80: the edges of PWRGOOD start and abandon the stability interval and the supply loss filter; BOOT is entered when PWRGOOD has been high
for 100 ms in POWER_ON, and when the 200 ms reset pulse of RESTART ends; the low time of the C-port's RX is measured anew from there. That
the supply loss filter is measured anew at the entry to BOOT is the model's reading (log entry 17). -/
def Obligations.PowerGoodBringsBoot : Prop :=
  (∀ s : State, s.powered = true →
    (s.pins.pwrgood = false → exec .pwrgoodRise s = .next
      { s with pins.pwrgood := true, ctl.supplyLoss := none, ctl.stability := if s.ctl.phase = .powerOn then some s.clock.now else none })
    ∧ (s.pins.pwrgood = true → exec .pwrgoodFall s = .next
      { s with
        pins.pwrgood := false, ctl.stability := none
        ctl.supplyLoss := if s.ctl.phase ∈ [.boot, .run, .restart] then some s.clock.now else none }))
  ∧ (∀ s : State,
    let booted : State :=
      { s with
        clock.timeInPhase := 0, clock.phaseAt := s.clock.now
        lines := { s.lines with pcRst := false, moves := [.pcRstReleased] }
        ctl := { s.ctl with
          phase := .boot, warmUp := .stopped, wait := none, stability := none, resetPulse := none, offTime := none
          supplyLoss := if s.pins.pwrgood then none else some s.clock.now
          ledFrom := if s.ctl.overlay.isSome then s.ctl.ledFrom else s.clock.now }
        sup := { s.sup with
          deadline := .bootWindow, expiry := s.clock.now + s.cfg.watchdog.tBoot * 1000000, firstHeartbeat := true, openRecord := false }
        link.rxFrom := s.clock.now
        note.statusPart2 := false }
    (InPhase .powerOn s → HasRun s.ctl.stability 100000 s → exec .pwrgoodStabilityComplete s = .next booted)
    ∧ (InPhase .restart s → HasRun s.ctl.resetPulse 200000 s → exec .resetPulseEnd s = .next booted))

/-- R10, R23 to R25: a chord firing by its action, with its overlay, and firings that wait taken in the order they were handed on (how many are
taken at once is free: log entry 32); a firing that meets what came before it, POWER_ON after the soak and COOLDOWN after OVERHEAT; the end of
the overlay, after which the base pattern starts from its beginning, which is lit; and what LED shows. SOAK_COMPLETE and OVERHEAT_DWELL_EXPIRY as rows
of their own, one sample short of the soak and of the dwell, are the model's choice (log entry 5). -/
def Obligations.ChordActionsAndOverlay : Prop :=
  (∀ s : State,
    (let warm := s.ctl.phase = .preheat ∧ s.sens.effBoard.any (fun b => s.cfg.sensing.tAbsMin ≤ b) = true
     let t := handOn .skipWarmup s
     (warm → PowerOnEntered s { t with ctl.overlay := s.ctl.overlay, ctl.overlayFrom := s.ctl.overlayFrom }
        ∧ t.ctl.overlay = some .accepted ∧ t.ctl.overlayFrom = s.clock.now)
     ∧ (¬ warm → t = { s with ctl.overlay := some .refused, ctl.overlayFrom := s.clock.now }))
    ∧ (let t := handOn .clearLockout s
       t.sup.floor = s.clock.uptime ∧ t.ctl.overlay = some .accepted ∧ t.ctl.overlayFrom = s.clock.now
       ∧ (s.ctl.phase = .lockout → PreheatEntered { s with sup.floor := s.clock.uptime }
            { t with ctl.overlay := s.ctl.overlay, ctl.overlayFrom := s.ctl.overlayFrom })
       ∧ (s.ctl.phase ≠ .lockout → t =
            { s with
              sup.floor := s.clock.uptime
              ctl := { s.ctl with
                overlay := some .accepted, overlayFrom := s.clock.now
                originLockout := if s.ctl.phase = .cooldown then false else s.ctl.originLockout } }))
    ∧ handOn .report s = { s with ctl.overlay := some .accepted, ctl.overlayFrom := s.clock.now }
    ∧ (s.ctl.phase ∈ [.powerOn, .boot, .run] → handOn .requestRestart s =
        { request .chordRestart s with ctl.overlay := some .accepted, ctl.overlayFrom := s.clock.now })
    ∧ (s.ctl.phase ∉ [.powerOn, .boot, .run] → handOn .requestRestart s =
        { s with ctl.overlay := some .refused, ctl.overlayFrom := s.clock.now }))
  ∧ (∀ s : State, s.powered = true →
    (s.ctl.overlay.isSome = true → s.ctl.overlayFrom + 1000000 ≤ s.clock.now →
      Nexts (exec .overlayEnd s) fun t => t = { s with ctl.overlay := none, ctl.ledFrom := s.clock.now } ∧ ledLit t = true)
    ∧ (s.ctl.overlay = none → exec .overlayEnd s = .next s))
  ∧ ((∀ s : State,
      takeFirings 0 s = s
      ∧ (s.ctl.firings = [] → ∀ n, takeFirings n s = s)
      ∧ ∀ n a rest, s.ctl.firings = a :: rest → takeFirings (n + 1) s = takeFirings n (handOn a { s with ctl.firings := rest }))
    ∧ (∀ s : State, InPhase .preheat s → s.ctl.firings = [.skipWarmup] → s.sens.gate.satisfied = true → s.sens.gate.complete = false →
      s.cfg.sensing.tSoak * 1000 ≤ s.sens.gate.soakMs + 250 →
      Nexts (exec .soakComplete s) fun u =>
        u.ctl.phase = .powerOn
        ∧ takeFirings 1 u = { u with ctl := { u.ctl with firings := [], overlay := some .refused, overlayFrom := u.clock.now } })
    ∧ (∀ s : State, InPhase .lockout s → s.ctl.firings = [.clearLockout] → s.sens.dwellMs = 9750 →
      Nexts (exec .overheatDwellExpiry s) fun u =>
        u.ctl.phase = .cooldown ∧ u.ctl.originLockout = true
        ∧ takeFirings 1 u =
            { u with
              sup.floor := u.clock.uptime
              ctl := { u.ctl with firings := [], originLockout := false, overlay := some .accepted, overlayFrom := u.clock.now } }))
  ∧ (∀ s : State, s.powered = true →
    let shown := s.clock.now - s.ctl.overlayFrom
    let t := s.clock.now - s.ctl.ledFrom
    let flashes (n : Nat) : Bool := (List.range n).any fun k => decide (k * 200000 ≤ t % 2000000 ∧ t % 2000000 < k * 200000 + 100000)
    (s.ctl.overlay = some .accepted → ledLit s = false)
    ∧ (s.ctl.overlay = some .refused → ∀ k < 8,
        (k * 125000 ≤ shown → shown < k * 125000 + 62500 → ledLit s = true)
        ∧ (k * 125000 + 62500 ≤ shown → shown < (k + 1) * 125000 → ledLit s = false))
    ∧ (s.ctl.overlay = none →
        (s.ctl.phase = .preheat → ledLit s = decide (t % 1000000 < 500000))
        ∧ (s.ctl.phase ∈ [.powerOn, .boot] → ledLit s = decide (t % 250000 < 125000))
        ∧ (s.ctl.phase = .run → ledLit s = true)
        ∧ (s.ctl.phase ∈ [.restart, .powerCycle] → ledLit s = flashes 2)
        ∧ (s.ctl.phase ∈ [.cooldown, .lockout] → ledLit s = flashes 3)))

/-! ## The restart supervisor -/

/-- R118, R119, R121: a restart request is ignored without trace, or its action chosen, its record made, and the action carried out. -/
def Obligations.RequestTakenOrIgnored : Prop :=
  ∀ (c : RestartCause) (s : State),
    let ignored := (s.ctl.phase ∈ [.preheat, .powerCycle, .cooldown, .lockout] ∧ c ≠ .overheat)
      ∨ (s.ctl.phase = .restart ∧ c = .chordRestart)
    let standing (a : RestartAction) : Nat := s.sup.history.countP fun r =>
      decide (r.cause ∈ [.bootTimeout, .heartbeatTimeout, .supplyFail, .supplyLoss] ∧ r.action = a
        ∧ s.clock.uptime ≤ r.uptime + s.cfg.watchdog.window * 60 ∧ s.sup.floor < r.uptime)
    let action : RestartAction :=
      if c = .commandedReset ∨ c = .chordRestart then .reset
      else if c = .commandedCycle then .powerCycle
      else if c = .overheat then .cooldown
      else if c = .supplyLoss ∧ s.ctl.phase = .restart then .powerCycle
      else if standing .reset + 1 < s.cfg.watchdog.k then .reset
      else if standing .powerCycle + 1 < s.cfg.watchdog.m then .powerCycle
      else .lockout
    let record : RestartRecord :=
      { cause := c, action := action, phaseLeft := s.ctl.phase, cabinet := s.clock.cabinet, uptime := s.clock.uptime,
        board := s.sens.effBoard, staleCount := s.sup.staleCount, lateCount := 0 }
    (ignored → request c s = s)
    ∧ (¬ ignored → request c s = carryOut action
        { s with sup := { s.sup with
            history := (s.sup.history ++ [record]).drop (s.sup.history.length + 1 - 8), openRecord := true, addedSinceRun := true } })

/-- R12, R14, R15, R113: the timers whose expiry is a restart request, each once it has run its span in its own phase; and R118's two requests due at
once: a HEARTBEAT_TIMEOUT that enters RESTART leaves the SUPPLY_LOSS to arrive there, recorded with the action POWER_CYCLE (the filter's part in it is the
model's reading, log entry 17). -/
def Obligations.ExpiriesThatRequestARestart : Prop :=
  ∀ s : State,
    (InPhase .powerOn s → HasRun s.ctl.wait 2000000 s →
      exec .pwrgoodWaitExpiry s = .next (request .supplyFail { s with ctl.wait := none, ctl.stability := none }))
    ∧ (s.powered = true → s.ctl.phase ∈ [.boot, .run, .restart] → HasRun s.ctl.supplyLoss 50000 s →
      exec .supplyLossFilterExpiry s = .next (request .supplyLoss { s with ctl.supplyLoss := none }))
    ∧ (s.powered = true → s.sup.deadline = .bootWindow → s.sup.expiry ≤ s.clock.now →
      exec .deadlineExpiry s = .next (request .bootTimeout { s with sup.deadline := .stopped }))
    ∧ (s.powered = true → s.sup.deadline = .heartbeat → s.sup.expiry ≤ s.clock.now →
      exec .deadlineExpiry s = .next (request .heartbeatTimeout { s with sup.deadline := .stopped }))
    ∧ (s.powered = true → s.sup.deadline = .stopped ∨ s.sup.deadline = .suspended → exec .deadlineExpiry s = .next s)
    ∧ (InPhase .run s → s.sup.deadline = .heartbeat → s.sup.expiry ≤ s.clock.now → s.pins.pwrgood = false → HasRun s.ctl.supplyLoss 50000 s →
      Nexts (exec .deadlineExpiry s) fun u => u.ctl.phase = .restart →
        Nexts (exec .supplyLossFilterExpiry u) fun t => t.ctl.phase = .powerCycle
          ∧ (t.sup.history.getLast?).map (fun r => (r.cause, r.action, r.phaseLeft)) = some (.supplyLoss, .powerCycle, .restart))

/-- R109 to R112, R139: a heartbeat offer judged and, where fresh, accepted, the entry to RUN with its SNAPSHOT whole; and PULSE, whose reply carries the
judgement, the stale count and the deadline. That the reply stands ahead of the NOTICE and the KEY frames of the same event is the model's choice (log
entry 6), and that the supply loss filter is measured anew at the entry to RUN is its reading (log entry 17). -/
def Obligations.Heartbeats : Prop :=
  let snapshot (s : State) : KeyEvent :=
    { kind := .snapshot, position := none, code := 0, chord := none, cold := s.keys.coldPress, stuck := false, resync := false
      truncated := decide (24 < (heldCodes s).length), stamp := s.clock.cabinet, codes := (heldCodes s).take 24 }
  let entersRun (s : State) : State :=
    { s with
      clock.timeInPhase := 0, clock.phaseAt := s.clock.now, lines.moves := []
      ctl := { s.ctl with
        phase := .run, warmUp := .stopped, stability := none, wait := none, resetPulse := none, offTime := none
        supplyLoss := if s.pins.pwrgood then none else some s.clock.now
        ledFrom := if s.ctl.overlay.isSome then s.ctl.ledFrom else s.clock.now }
      sup := { s.sup with
        staleCount := 0, firstHeartbeat := false, deadline := .heartbeat, expiry := s.clock.now + s.cfg.watchdog.tHb * 1000000
        addedSinceRun := false }
      keys.queue := if heldCodes s = [] then s.keys.queue else s.keys.queue ++ [snapshot s]
      note.pending := if s.sup.addedSinceRun then s.note.pending ||| 32#13 else s.note.pending }
  (∀ (src : HeartbeatSource) (token : Option Byte) (s : State),
    let r := offerHeartbeat src token s
    let fresh := s.sup.firstHeartbeat = true ∨ s.cfg.watchdog.tokenCheck = false ∨ (token ≠ none ∧ token ≠ tokenOf src s)
    let seen := if token = none then s else setToken src token s
    (s.ctl.phase ∉ [.boot, .run] → r = (s, none))
    ∧ (s.ctl.phase ∈ [.boot, .run] → ¬ fresh → r = ({ seen with sup.staleCount := min 255 (s.sup.staleCount + 1) }, some false))
    ∧ (s.ctl.phase ∈ [.boot, .run] → fresh → r.2 = some true ∧ r.1.sup.staleCount = 0
        ∧ (s.sup.deadline = .heartbeat → r.1 =
            { seen with sup.staleCount := 0, sup.expiry := s.clock.now + s.cfg.watchdog.tHb * 1000000 })
        ∧ (s.sup.deadline = .suspended → r.1 = { seen with sup.staleCount := 0 })
        ∧ (s.sup.deadline = .bootWindow →
            r.1.ctl.phase = .run ∧ r.1.sup.deadline = .heartbeat ∧ r.1.sup.firstHeartbeat = false
            ∧ r.1.sup.expiry = s.clock.now + s.cfg.watchdog.tHb * 1000000
            ∧ r.1.clock.timeInPhase = 0 ∧ r.1.lines = { s.lines with moves := [] }
            ∧ r.1.sup.addedSinceRun = false
            ∧ r.1.note.pending = (if s.sup.addedSinceRun then s.note.pending ||| 32#13 else s.note.pending)
            ∧ (s.ctl.phase = .boot → r.1 = entersRun seen))))
  ∧ (∀ (p : List Byte) (s : State), TakesCommands s → s.ctl.phase ∈ [.boot, .run] → p.length ≤ 1 →
    let token := p.head?
    let fresh := s.sup.firstHeartbeat = true ∨ s.cfg.watchdog.tokenCheck = false ∨ (token ≠ none ∧ token ≠ s.sup.pulseToken)
    let memory := if token = none then s.sup.pulseToken else token
    let deadline : List Byte :=
      if s.sup.deadline = .stopped then [0x00, 0x00, 0x00]
      else if s.sup.deadline = .suspended then [0x03, 0x00, 0x00]
      else (if s.sup.deadline = .bootWindow then 0x01 else 0x02) :: be16 ((s.sup.expiry - s.clock.now + 999999) / 1000000)
    Nexts (exec (.pulse p) s) fun t =>
      (¬ fresh → AnsweredThenDelivered 0x45 ([0x00, 0x01, byte (min 255 (s.sup.staleCount + 1))] ++ deadline)
        { s with sup := { s.sup with pulseToken := memory, staleCount := min 255 (s.sup.staleCount + 1) } } t)
      ∧ (fresh → s.sup.deadline = .heartbeat → AnsweredThenDelivered 0x45 ([0x00, 0x00, 0x00, 0x02] ++ be16 s.cfg.watchdog.tHb)
        { s with sup := { s.sup with
            pulseToken := memory, staleCount := 0, expiry := s.clock.now + s.cfg.watchdog.tHb * 1000000 } } t)
      ∧ (fresh → s.sup.deadline ∈ [.suspended, .stopped] → AnsweredThenDelivered 0x45 ([0x00, 0x00, 0x00] ++ deadline)
        { s with sup := { s.sup with pulseToken := memory, staleCount := 0 } } t)
      ∧ (fresh → s.sup.deadline = .bootWindow →
          t.ctl.phase = .run ∧ t.sup.deadline = .heartbeat ∧ t.sup.pulseToken = memory ∧ t.sup.staleCount = 0
          ∧ (s.link.up ++ [upFrame .reply 0xC5 ([0x00, 0x00, 0x00, 0x02] ++ be16 s.cfg.watchdog.tHb)]) <+: t.link.up
          ∧ (s.ctl.phase = .boot → AnsweredThenDelivered 0x45 ([0x00, 0x00, 0x00, 0x02] ++ be16 s.cfg.watchdog.tHb)
              (entersRun { s with sup.pulseToken := memory }) t)))

/-- R114, R115: a suspension begun, extended within an hour of its start, ended by command, and run out. -/
def Obligations.WatchdogSuspended : Prop :=
  (∀ (x y : Byte) (s : State), TakesCommands s → s.ctl.phase = .run →
    let asked := x.toNat * 256 + y.toNat
    let d := max 1 (min 3600 asked)
    let start := if s.sup.deadline = .suspended then (s.sup.suspension.map Suspension.start).getD s.clock.now else s.clock.now
    let e := min (s.clock.now + d * 1000000) (start + 3600000000)
    exec (.suspendWatchdog [x, y]) s = .next
      (replied 0x59 ((if d = asked ∧ e = s.clock.now + d * 1000000 then 0x00 else 0x01) :: be16 ((e - s.clock.now + 999999) / 1000000))
        { s with sup.deadline := .suspended, sup.suspension := some { start := start, expiry := e } }))
  ∧ (∀ s : State, TakesCommands s → s.ctl.phase = .run → s.sup.deadline = .suspended →
      exec (.resumeWatchdog []) s = .next
        (replied 0x5A [0x00]
          { s with sup.deadline := .heartbeat, sup.suspension := none, sup.expiry := s.clock.now + s.cfg.watchdog.tHb * 1000000 }))
  ∧ (∀ s : State, TakesCommands s → s.ctl.phase = .run → s.sup.deadline = .heartbeat →
      exec (.resumeWatchdog []) s = .next (replied 0x5A [0x00] s))
  ∧ (∀ s : State, TakesCommands s → s.ctl.phase ≠ .run →
      exec (.resumeWatchdog []) s = .next (replied 0x5A [0x14] s)
      ∧ ∀ x y : Byte, exec (.suspendWatchdog [x, y]) s = .next (replied 0x59 [0x14] s))
  ∧ ∀ (x : Suspension) (s : State), s.powered = true → s.sup.deadline = .suspended → s.sup.suspension = some x → x.expiry ≤ s.clock.now →
      Nexts (exec .suspensionExpiry s) fun t =>
        SameButDeliveries
          { s with
            sup.deadline := .heartbeat, sup.suspension := none, sup.expiry := x.expiry + s.cfg.watchdog.tHb * 1000000
            note.pending := s.note.pending ||| 512#13 } t

/-- R116, R117: the restart arm, and RESTART judged in its order; accepted, its reply is queued and then removed with the upstream queue by the entry
it causes. That an ARM_EXPIRY row before its time does nothing is the model's choice (log entry 10). -/
def Obligations.ArmedRestart : Prop :=
  (∀ s : State,
    (TakesCommands s → exec (.armRestart []) s = .next { replied 0x5B [0x00] s with sup.arm := some (s.clock.now + 1000000) })
    ∧ (∀ e : Nat, s.powered = true → s.sup.arm = some e →
        (e ≤ s.clock.now → exec .armExpiry s = .next { s with sup.arm := none }) ∧ (s.clock.now < e → exec .armExpiry s = .next s))
    ∧ (TakesCommands s → ∀ p : List Byte, p ≠ [] → exec (.armRestart p) s = .next (replied 0x5B [0x11] s))
    ∧ (TakesCommands s → ∀ p : List Byte, p.length ≠ 1 → exec (.restart p) s = .next (replied 0x5C [0x11] s)))
  ∧ (∀ (kind : Byte) (s : State), TakesCommands s →
    (1 < kind.toNat → exec (.restart [kind]) s = .next (replied 0x5C [0x13] s))
    ∧ (kind.toNat ≤ 1 → s.sup.arm = none → exec (.restart [kind]) s = .next (replied 0x5C [0x15] s))
    ∧ (kind.toNat ≤ 1 → s.sup.arm.isSome = true → s.ctl.phase ∉ [.boot, .run] → exec (.restart [kind]) s = .next (replied 0x5C [0x14] s))
    ∧ (kind.toNat ≤ 1 → s.sup.arm.isSome = true → s.ctl.phase ∈ [.boot, .run] → Nexts (exec (.restart [kind]) s) fun t =>
        t = request (if kind = 0 then .commandedReset else .commandedCycle) (replied 0x5C [0x00] s)
        ∧ t.ctl.phase = (if kind = 0 then .restart else .powerCycle) ∧ t.link.up = []))

/-- R120: SET_WATCHDOG clamps each value to its range, answers with the values in force, and moves the floor when the window, K or M changes. -/
def Obligations.SetWatchdog : Prop :=
  ∀ (b0 b1 h0 h1 tk w k m : Byte) (s : State), TakesCommands s →
    let tBoot := max 10 (min 1800 (b0.toNat * 256 + b1.toNat))
    let tHb := max 1 (min 600 (h0.toNat * 256 + h1.toNat))
    let w' := max 1 (min 240 w.toNat)
    let k' := max 1 (min 4 k.toNat)
    let m' := max 1 (min 4 m.toNat)
    let asIs := tBoot = b0.toNat * 256 + b1.toNat ∧ tHb = h0.toNat * 256 + h1.toNat ∧ w' = w.toNat ∧ k' = k.toNat ∧ m' = m.toNat
    let old := s.cfg.watchdog
    (1 < tk.toNat → exec (.setWatchdog [b0, b1, h0, h1, tk, w, k, m]) s = .next (replied 0x58 [0x13] s))
    ∧ (tk.toNat ≤ 1 → exec (.setWatchdog [b0, b1, h0, h1, tk, w, k, m]) s = .next
        (replied 0x58
          ((if asIs then 0x00 else 0x01) :: be16 tBoot ++ be16 tHb ++ [tk, byte w', byte k', byte m'])
          { s with
            cfg.watchdog := { tBoot := tBoot, tHb := tHb, tokenCheck := tk == 1, window := w', k := k', m := m' }
            sup.floor := if w' = old.window ∧ k' = old.k ∧ m' = old.m then s.sup.floor else s.clock.uptime }))

/-! ## Sensors -/

/-- R26 to R34: one sample updates the three sensor records by the kind of each raw code, forms the effective readings from them, raises
SENSOR_FAULT for each entry to FAILED, and then updates the gate record, the overheat warning, the overheat dwell and the cooling-degraded record and
tests for the COOLDOWN exit, in this order, each on the readings just formed (for an entry or a record made there the model's choice: log entry 33); the
NOTICE test of R150 comes at each raise. That a faulty sample leaves the last reading (log entry 22) and that runs are put to 0 while they rest (log
entry 30) is the model's reading, and the order of the follow-ups in `settle` (log entry 6) its choice. -/
def Obligations.SampleUpdatesTheSensors : Prop :=
  ∀ (a d b : RawCode) (s : State), s.powered = true → Nexts (exec (.sensorSample a d b) s) fun t =>
    let reading (r : RawCode) (trim : Int) : Int := max (-220) (min 500 ((r.toNat : Int) - 1220 + trim))
    let after (x : Sensor) (r : RawCode) (trim : Int) : Sensor :=
      if 64 ≤ r.toNat ∧ r.toNat ≤ 4031 then
        if x.state = .valid then
          { x with
            faultyRun := 0, reading := some (reading r trim)
            filtered := some (filterStep (x.filtered.getD (reading r trim)) (reading r trim)) }
        else if x.state = .starting ∨ 19 ≤ x.validRun then
          { state := .valid, faultyRun := 0, validRun := 0, reading := some (reading r trim), filtered := some (reading r trim) }
        else { x with validRun := x.validRun + 1, reading := some (reading r trim) }
      else if x.state = .failed then { x with validRun := 0 }
      else if 3 ≤ x.faultyRun then { x with state := .failed, faultyRun := 4, validRun := 0 }
      else { x with faultyRun := x.faultyRun + 1 }
    let a' := after s.sens.air a s.cfg.sensing.trimAir
    let d' := after s.sens.display d s.cfg.sensing.trimDisplay
    let b' := after s.sens.board b s.cfg.sensing.trimBoard
    let own (x : Sensor) : Option Int := if x.state = .valid then x.filtered else none
    let enters (x y : Sensor) : Bool := x.state != .failed && y.state == .failed
    t.sens.air = a' ∧ t.sens.display = d' ∧ t.sens.board = b'
    ∧ t.sens.effAir = (own a').or (own b') ∧ t.sens.effDisplay = (own d').or (own a') ∧ t.sens.effBoard = (own b').or (own a')
    ∧ t.sens.sampleAt = s.clock.now
    ∧ isPending .sensorFault t = (isPending .sensorFault s || enters s.sens.air a' || enters s.sens.display d' || enters s.sens.board b')
    ∧ t = { s with
            clock.timeInPhase := t.clock.timeInPhase, clock.phaseAt := t.clock.phaseAt
            pins.air := a, pins.display := d, pins.board := b
            lines := t.lines, ctl := t.ctl, sens := t.sens, chan := t.chan, bud := t.bud, sup := t.sup
            link := { t.link with rateHigh := s.link.rateHigh }
            keys.queue := t.keys.queue, keys.loss := t.keys.loss
            note.pending := t.note.pending, note.outstanding := t.note.outstanding }
    ∧ (let anyEnters := enters s.sens.air a' || enters s.sens.display d' || enters s.sens.board b'
       let u := { s with
         pins.air := a, pins.display := d, pins.board := b
         sens := { s.sens with
           air := a', display := d', board := b', sampleAt := s.clock.now
           effAir := (own a').or (own b'), effDisplay := (own d').or (own a'), effBoard := (own b').or (own a') }
         note.pending := if anyEnters then s.note.pending ||| 8#13 else s.note.pending }
       SameButDeliveries (cooldownExit (updateCooling (updateDwell (updateWarning (updateGate u))))) t
       ∧ t = settle (cooldownExit (updateCooling (updateDwell (sendNotice (updateWarning (updateGate (sendNotice u))))))))

/-- R32: the filter takes a quarter of the difference, at least one, never passes the reading, and settles on it; it is stepped at a valid sample
of a VALID sensor alone. -/
def Obligations.FilterSettlesOnTheReading : Prop :=
  ∀ F T : Int,
    (F = T → filterStep F T = F)
    ∧ (F < T → filterStep F T = F + max 1 ((T - F) / 4) ∧ filterStep F T ≤ T)
    ∧ (T < F → filterStep F T = F - max 1 ((F - T) / 4) ∧ T ≤ filterStep F T)
    ∧ (fun f => filterStep f T)^[(T - F).natAbs] F = T
    ∧ ∀ (trim : Int) (r : RawCode) (x : Sensor), x.filtered = some F →
        (x.state = .valid → 64 ≤ r.toNat → r.toNat ≤ 4031 →
          (sampleSensor trim r x).filtered = some (filterStep F (max (-220) (min 500 ((r.toNat : Int) - 1220 + trim)))))
        ∧ (r.toNat < 64 ∨ 4031 < r.toNat → (sampleSensor trim r x).filtered = some F)
        ∧ (x.state = .failed → x.validRun < 19 → (sampleSensor trim r x).filtered = some F)

/-- R30, R31, R33, R34: each effective reading is the sensor's own filtered value, else its substitute's own, else "none"; and the fourth faulty sample
in a row, and the twentieth valid one of a FAILED sensor, as rows of their own (log entry 5), with the runs put to 0 while they rest (log entry 30). -/
def Obligations.SensorsFailAndRecover : Prop :=
  (∀ s : State,
    let t := formReadings s
    t = { s with sens.effAir := t.sens.effAir, sens.effDisplay := t.sens.effDisplay, sens.effBoard := t.sens.effBoard }
    ∧ ∀ x y eff, (x, y, eff) ∈ [(s.sens.board, s.sens.air, t.sens.effBoard), (s.sens.display, s.sens.air, t.sens.effDisplay),
          (s.sens.air, s.sens.board, t.sens.effAir)] →
        (∀ f, x.state = .valid → x.filtered = some f → eff = some f)
        ∧ (x.state ≠ .valid → y.state = .valid → eff = y.filtered)
        ∧ (x.state ≠ .valid → y.state ≠ .valid → eff = none))
  ∧ (∀ (i : SensorId) (s : State), s.powered = true →
    let x := sensorOf i s
    (x.state ≠ .failed → x.faultyRun = 3 → Nexts (exec (.sensorFailed i) s) fun t =>
      SameButDeliveries
        (formReadings { setSensor i { x with state := .failed, faultyRun := 4, validRun := 0 } s with note.pending := s.note.pending ||| 8#13 }) t)
    ∧ ∀ r : RawCode, x.state = .failed → x.validRun = 19 → 64 ≤ r.toNat → r.toNat ≤ 4031 →
        let T := max (-220) (min 500 ((r.toNat : Int) - 1220 + trimOf i s))
        exec (.sensorRecovered i r) s = .next
          (formReadings (setSensor i { state := .valid, faultyRun := 0, validRun := 0, reading := some T, filtered := some T } s)))

/-- R35, R36: the gate record at a sample, by the satisfied test of the last sample and of this one. That it keeps the T_soak of the sample is the model's
reading (log entry 26). -/
def Obligations.GateRecord : Prop :=
  ∀ s : State,
    let holds := s.sens.effBoard.any (fun b => s.cfg.sensing.gBoard ≤ b) && s.sens.effDisplay.any (fun d => s.cfg.sensing.gDisp ≤ d)
    let g := s.sens.gate
    let span := s.cfg.sensing.tSoak
    (holds = false → g.satisfied = false → updateGate s = { s with sens.gate.span := span })
    ∧ (holds = false → g.satisfied = true → updateGate s =
        { s with sens.gate := { satisfied := false, since := none, soakMs := 0, complete := false, span := span } })
    ∧ (holds = true → g.satisfied = false → updateGate s =
        { s with sens.gate := { satisfied := true, since := some s.clock.uptime, soakMs := 0, complete := g.complete, span := span } })
    ∧ (holds = true → g.satisfied = true → g.complete = true → updateGate s = { s with sens.gate.span := span })
    ∧ (holds = true → g.satisfied = true → g.complete = false → g.soakMs + 250 < span * 1000 → updateGate s =
        { s with sens.gate := { g with soakMs := g.soakMs + 250, span := span } })
    ∧ (holds = true → g.satisfied = true → g.complete = false → span * 1000 ≤ g.soakMs + 250 →
        let u := { s with sens.gate := { g with soakMs := g.soakMs + 250, complete := true, span := span } }
        (s.ctl.phase = .preheat → PowerOnEntered u (updateGate s)) ∧ (s.ctl.phase ≠ .preheat → updateGate s = u))

/-- R19, R20: the overheat warning, raised once at T_warn and armed again 8 q below it; and the overheat dwell, with the OVERHEAT request when it
reaches 10 s. OVERHEAT_DWELL_EXPIRY as a row of its own, at a dwell one sample short of 10 s and whatever BOARD reads, is the model's choice (log
entry 5). -/
def Obligations.Overheat : Prop :=
  (∀ s : State,
    (s.sens.effBoard = none → updateWarning s = s)
    ∧ ∀ b : Int, s.sens.effBoard = some b →
      (s.sens.warnRaised = false → s.cfg.sensing.tWarn ≤ b →
        updateWarning s = { s with sens.warnRaised := true, note.pending := s.note.pending ||| 1#13 })
      ∧ (s.sens.warnRaised = false → b < s.cfg.sensing.tWarn → updateWarning s = s)
      ∧ (s.sens.warnRaised = true → b < s.cfg.sensing.tWarn - 8 → updateWarning s = { s with sens.warnRaised := false })
      ∧ (s.sens.warnRaised = true → s.cfg.sensing.tWarn - 8 ≤ b → updateWarning s = s))
  ∧ (∀ s : State,
    let above := s.sens.effBoard.any (fun b => s.cfg.sensing.tTrip ≤ b)
    (s.ctl.phase = .cooldown ∨ above = false → updateDwell s = { s with sens.dwellMs := 0 })
    ∧ (s.ctl.phase ≠ .cooldown → above = true → s.sens.dwellMs < 9750 → updateDwell s = { s with sens.dwellMs := s.sens.dwellMs + 250 })
    ∧ (s.ctl.phase ≠ .cooldown → above = true → s.sens.dwellMs = 9750 →
        updateDwell s = request .overheat { s with sens.dwellMs := 0 } ∧ (updateDwell s).ctl.phase = .cooldown)
    ∧ (s.powered = true → s.ctl.phase ≠ .cooldown → s.sens.dwellMs = 9750 →
        exec .overheatDwellExpiry s = .next (request .overheat { s with sens.dwellMs := 0 })))

/-- R56: the cooling-degraded record at a sample, and its two changes as rows of their own (log entry 5). -/
def Obligations.CoolingDegraded : Prop :=
  ∀ s : State,
    let c := s.chan.cooling
    let stalled := hasCondition stallBit s.chan.fan.ch
    (s.sens.effBoard = none ∨ s.sens.effAir = none → updateCooling s = { s with chan.cooling := { c with setMs := 0, clearMs := 0 } })
    ∧ (∀ b a : Int, s.sens.effBoard = some b → s.sens.effAir = some a →
        (s.cfg.sensing.deltaMax < b - a → s.chan.fan.ch.applied = 64 ∨ stalled = true →
          updateCooling s = { s with
            chan.cooling := { degraded := c.degraded || decide (119750 ≤ c.setMs), setMs := min 120000 (c.setMs + 250), clearMs := 0 }
            note.pending := if 119750 ≤ c.setMs ∧ c.degraded = false then s.note.pending ||| 16#13 else s.note.pending })
        ∧ (b - a < s.cfg.sensing.deltaMax - 20 → stalled = false →
          updateCooling s = { s with chan.cooling :=
            { degraded := c.degraded && decide (c.clearMs < 119750), setMs := 0, clearMs := min 120000 (c.clearMs + 250) } })
        ∧ (s.cfg.sensing.deltaMax - 20 ≤ b - a → b - a ≤ s.cfg.sensing.deltaMax →
          updateCooling s = { s with chan.cooling := { c with setMs := 0, clearMs := 0 } })
        ∧ (s.cfg.sensing.deltaMax < b - a → s.chan.fan.ch.applied ≠ 64 → stalled = false →
          updateCooling s = { s with chan.cooling := { c with setMs := 0, clearMs := 0 } })
        ∧ (b - a < s.cfg.sensing.deltaMax - 20 → stalled = true →
          updateCooling s = { s with chan.cooling := { c with setMs := 0, clearMs := 0 } }))
    ∧ (s.powered = true → c.degraded = false → 119750 ≤ c.setMs → Nexts (exec .coolingDegradedSet s) fun t =>
        SameButDeliveries
          { s with chan.cooling := { degraded := true, setMs := 120000, clearMs := 0 }, note.pending := s.note.pending ||| 16#13 } t)
    ∧ (s.powered = true → c.degraded = true → 119750 ≤ c.clearMs →
        exec .coolingDegradedClear s = .next { s with chan.cooling := { degraded := false, setMs := 0, clearMs := 120000 } })

/-! ## The load budget and the channels -/

/-- R62 to R66: the stages of an allocation in their order, each drawing on what the one before left, with the charges together within the total; and
the limited run, with BUDGET_LIMITED raised once when it reaches 60. A ceiling held down by the derate cap alone is not limited. BUDGET_LIMITED as a
row of its own, at a limited run of 59, is the model's choice (log entry 5). -/
def Obligations.BudgetStages : Prop :=
  (∀ (q : BudgetParams) (reserve : Bool) (dF d1 d0 lReq : Nat) (degraded : Bool),
    let a := allocationOf { params := q, reserve := reserve, dF := dF, d1 := d1, d0 := d0, lReq := lReq, degraded := degraded }
    let avail1 := q.bTot - a.compCharge
    let avail2 := avail1 - a.fanCharge
    let avail3 := avail2 - a.h1Charge
    let avail4 := avail3 - a.blCharge
    let limit := if q.pBl = 0 then 255 else min 255 (avail3 * 255 / q.pBl)
    a.compCharge = (if reserve then min q.rc q.bTot else 0)
    ∧ a.fanGrant = (if q.pFan = 0 then dF else min dF (avail1 * 64 / q.pFan)) ∧ a.fanCharge = (a.fanGrant * q.pFan + 63) / 64
    ∧ a.h1Grant = (if q.p1 = 0 then d1 else min d1 (avail2 * 64 / q.p1)) ∧ a.h1Charge = (a.h1Grant * q.p1 + 63) / 64
    ∧ a.ceiling = min lReq (if degraded then min limit q.lCap else limit) ∧ a.blCharge = (a.ceiling * q.pBl + 254) / 255
    ∧ a.h0Grant = (if q.p0 = 0 then d0 else min d0 (avail4 * 64 / q.p0)) ∧ a.h0Charge = (a.h0Grant * q.p0 + 63) / 64
    ∧ a.compCharge + a.fanCharge + a.h1Charge + a.blCharge + a.h0Charge ≤ q.bTot
    ∧ a.fanGrant ≤ dF ∧ a.h1Grant ≤ d1 ∧ a.h0Grant ≤ d0 ∧ a.ceiling ≤ lReq ∧ a.ceiling ≤ 255)
  ∧ ((∀ (limited : Bool) (s : State),
    (limited = false → countLimited limited s = { s with bud.limitedRun := 0 })
    ∧ (limited = true → s.bud.limitedRun < 59 → countLimited limited s = { s with bud.limitedRun := s.bud.limitedRun + 1 })
    ∧ (limited = true → s.bud.limitedRun = 59 →
        countLimited limited s = { s with bud.limitedRun := 60, note.pending := s.note.pending ||| 256#13 })
    ∧ (limited = true → s.bud.limitedRun = 60 → countLimited limited s = s))
  ∧ (∀ (q : BudgetParams) (reserve : Bool) (dF d1 d0 lReq : Nat),
      let i : AllocInput := { params := q, reserve := reserve, dF := dF, d1 := d1, d0 := d0, lReq := lReq, degraded := false }
      isLimited i = true ↔
        (allocationOf i).fanGrant < dF ∨ (allocationOf i).h1Grant < d1 ∨ (allocationOf i).h0Grant < d0 ∨ (allocationOf i).ceiling < lReq)
  ∧ (∀ (q : BudgetParams) (reserve : Bool) (dF d1 d0 lReq : Nat) (degraded : Bool),
      let i : AllocInput := { params := q, reserve := reserve, dF := dF, d1 := d1, d0 := d0, lReq := lReq, degraded := degraded }
      let a := allocationOf i
      let avail3 := q.bTot - a.compCharge - a.fanCharge - a.h1Charge
      isLimited i = true ↔
        a.fanGrant < dF ∨ a.h1Grant < d1 ∨ a.h0Grant < d0 ∨ (if q.pBl = 0 then 255 else min 255 (avail3 * 255 / q.pBl)) < lReq)
  ∧ ∀ s : State, s.powered = true → s.bud.limitedRun = 59 → Nexts (exec .budgetLimited s) fun t =>
      SameButDeliveries { s with bud.limitedRun := 60, note.pending := s.note.pending ||| 256#13 } t)

/-- R40 to R44, R60, R61: at each control period the demands are computed and offered, granted, and the grants applied; and one allocation, whoever
makes it, is the stages on the demands offered, the limited run counted (R66), the level frame that is due sent (R69), and the unenforced state judged
(R70). -/
def Obligations.ControlPeriod : Prop :=
  (∀ (reserve : Bool) (s : State),
    let v := allocate reserve s
    let i : AllocInput :=
      { params := s.cfg.budget, reserve := reserve, dF := v.chan.fan.ch.offered, d1 := v.chan.h1.ch.offered, d0 := v.chan.h0.ch.offered,
        lReq := s.bud.back.lReq, degraded := s.chan.cooling.degraded }
    let sent := sendLevel (countLimited (isLimited i)
      { s with chan := v.chan, bud.last := allocationOf i, bud.back.ceiling := (allocationOf i).ceiling })
    GrantsApplied v
    ∧ v = { sent with bud.back.unenforced := decide (sent.bud.back.ceiling < sent.bud.back.lFwd) })
  ∧ ∀ s : State, s.powered = true → Nexts (exec .budgetTimerExpiry s) fun t =>
    let p := s.cfg.channels
    let law (set reading pb : Int) : Nat := if set - reading ≤ 0 then 0 else if pb ≤ set - reading then 64 else (64 * (set - reading) / pb).toNat
    let heat (st : ChannelState) (reading : Option Int) (run preheat pb : Int) : Nat :=
      if s.ctl.phase = .cooldown ∨ st = .lockedOff ∨ s.chan.inhibit = true then 0
      else reading.elim 16 fun T => law (if s.ctl.phase ∈ [.powerOn, .boot, .run, .restart] then run else preheat) T pb
    let running := s.sens.effAir.elim s.chan.fan.running fun T => if s.chan.fan.running then decide (p.tOn - 8 < T) else decide (p.tOn < T)
    let fan : Nat :=
      if s.chan.fan.ch.state = .lockedOff then 0
      else if s.ctl.phase = .cooldown then 64
      else s.sens.effAir.elim 64 fun T =>
        if running = false then 0 else if p.tFull ≤ T then 64 else if T ≤ p.tOn then 16 else max 16 (64 * (T - p.tOn) / (p.tFull - p.tOn)).toNat
    let a := allocationOf
      { params := s.cfg.budget, reserve := s.lines.pwrEn, dF := t.chan.fan.ch.offered, d1 := t.chan.h1.ch.offered,
        d0 := t.chan.h0.ch.offered, lReq := s.bud.back.lReq, degraded := s.chan.cooling.degraded }
    t.chan.h0.ch.demand = heat s.chan.h0.ch.state s.sens.effBoard p.h0Run p.h0Preheat p.pb0
    ∧ t.chan.h1.ch.demand = heat s.chan.h1.ch.state s.sens.effDisplay p.h1Run p.h1Preheat p.pb1
    ∧ t.chan.fan.ch.demand = fan ∧ t.chan.fan.running = running
    ∧ t.chan.h0.ch.offered = min t.chan.h0.ch.demand (s.chan.h0.base + 8)
    ∧ t.chan.h1.ch.offered = min t.chan.h1.ch.demand (s.chan.h1.base + 8)
    ∧ t.chan.fan.ch.offered = t.chan.fan.ch.demand
    ∧ t.bud.last = a ∧ t.bud.back.ceiling = a.ceiling
    ∧ t.chan.h0.ch.applied = a.h0Grant ∧ t.chan.h0.base = a.h0Grant
    ∧ t.chan.h1.ch.applied = a.h1Grant ∧ t.chan.h1.base = a.h1Grant
    ∧ t.chan.fan.ch.applied = a.fanGrant
    ∧ (s.chan.h0.ch.state ≠ .lockedOff → s.chan.inhibit = false → t.chan.h0.ch.state = (if a.h0Grant = 0 then .off else .active))
    ∧ (s.chan.h1.ch.state ≠ .lockedOff → s.chan.inhibit = false → t.chan.h1.ch.state = (if a.h1Grant = 0 then .off else .active))
    ∧ (s.chan.h0.ch.state ≠ .lockedOff → s.chan.inhibit = true → t.chan.h0.ch.state = .inhibited)
    ∧ (s.chan.h1.ch.state ≠ .lockedOff → s.chan.inhibit = true → t.chan.h1.ch.state = .inhibited)
    ∧ (s.chan.fan.ch.state ≠ .lockedOff → t.chan.fan.ch.state = (if a.fanGrant = 0 then .off else .active))
    ∧ (s.chan.h0.ch.state = .lockedOff → t.chan.h0.ch.state = .lockedOff)
    ∧ (s.chan.h1.ch.state = .lockedOff → t.chan.h1.ch.state = .lockedOff)
    ∧ (s.chan.fan.ch.state = .lockedOff → t.chan.fan.ch.state = .lockedOff)
    ∧ t = { (s.allocatedAs t).deliveredAs t with
            bud.periodAt := s.clock.now, chan.h0.ch.holdOff := false, chan.h1.ch.holdOff := false, chan.fan.ch.holdOff := false }
    ∧ SameButDeliveries
        (allocate s.lines.pwrEn
          { s with bud.periodAt := s.clock.now, chan.h0.ch.holdOff := false, chan.h1.ch.holdOff := false, chan.fan.ch.holdOff := false }) t

/-- R43, R46, R47, R49, R50: a heater switch conducts from the start of the period for 15.625 ms a sixty-fourth, the fan drive while its applied duty is
above 0; each runs its measurements while their conditions hold. That the fan drive counts as conducting throughout its 25 kHz cycle is the model's
reading (log entry 16), and that a comparator row brings the level the comparator then has is its choice (log entry 24). -/
def Obligations.Switches : Prop :=
  (∀ (h : HeaterId) (s : State), s.powered = true →
    let x := heaterOf h s
    let judged (q : HeaterSense) : Heater :=
      let on := (decide (64 ≤ x.ch.applied) || decide (s.clock.now - s.bud.periodAt < x.ch.applied * 15625)) && !x.ch.holdOff
        && x.ch.state != .lockedOff && x.ch.state != .inhibited
      let run (b : Bool) (old : Option Nat) : Option Nat := if b then some (old.getD s.clock.now) else none
      { x with
        ch := { x.ch with on := on, overFrom := run (on && q.trip) x.ch.overFrom }
        openFrom := run (on && q.openLoad) x.openFrom, goodFrom := run (on && !q.openLoad) x.goodFrom
        shortFrom := run (!on && q.sense) x.shortFrom, lowFrom := run (!on && !q.sense) x.lowFrom }
    (x.ch.on = true → x.ch.applied < 64 → s.bud.periodAt + x.ch.applied * 15625 ≤ s.clock.now →
      exec (.heaterOnTimeEnd h) s = .next (setHeater h (judged (senseOf h s)) s) ∧ (judged (senseOf h s)).ch.on = false)
    ∧ ∀ (c : Comparator) (r : Bool),
        let q := (senseOf h s).set c r
        (h = .h0 → exec (.comparatorChange .h0 c r) s = .next { setHeater h (judged q) s with pins.h0 := q })
        ∧ (h = .h1 → exec (.comparatorChange .h1 c r) s = .next { setHeater h (judged q) s with pins.h1 := q }))
  ∧ (∀ (c : Comparator) (r : Bool) (s : State), s.powered = true →
    let x := s.chan.fan
    let on := decide (0 < x.ch.applied) && !x.ch.holdOff && x.ch.state != .lockedOff
    let trip := if c = .trip then r else s.pins.fanTrip
    let run (b : Bool) (old : Option Nat) : Option Nat := if b then some (old.getD s.clock.now) else none
    exec (.comparatorChange .fan c r) s = .next
      { s with
        pins.fanTrip := trip
        chan.fan := { x with
          ch := { x.ch with on := on, overFrom := run (on && trip) x.ch.overFrom }
          stallFrom := run (decide (16 ≤ x.ch.applied) && !x.ch.holdOff && decide (x.speed < 600)) x.stallFrom } })

/-- R47, R48: an overcurrent that lasts the filter time in force is a trip, the third within 60 s locks the channel off, and trips leave the history at
60 s of age outside LOCKED_OFF. That a trip of exactly 60 s no longer counts at a new trip of that instant is the model's choice (log entry 39), that
a channel in LOCKED_OFF keeps its trips whatever their age is its reading (log entry 27). -/
def Obligations.Trips : Prop :=
  (∀ (c : ChannelId) (s : State), s.powered = true →
    let cold (r : Option Int) : Nat := if r.any (fun T => 0 ≤ T) then 2000 else 100000
    let span := if c = .h0 then cold s.sens.effBoard else if c = .h1 then cold s.sens.effDisplay else 2000
    let x := channelOf c s
    let young := x.trips.filter fun t => decide (s.clock.now < t + 60000000)
    HasRun x.overFrom span s → Nexts (exec (.overcurrentTrip c) s) fun t =>
      let y := channelOf c t
      y.holdOff = true ∧ y.on = false ∧ y.trips = young ++ [s.clock.now]
      ∧ y.flags = x.flags ||| 1 ∧ y.conds = x.conds ||| 1 ∧ y.summary = summaryOf c t
      ∧ (isPending .channelFault t = (isPending .channelFault s || (!x.summary && y.summary)))
      ∧ (young.length < 2 → y.state = x.state ∧ y.applied = x.applied)
      ∧ (2 ≤ young.length → y.state = .lockedOff ∧ y.applied = 0 ∧ (∀ h : HeaterId, heaterChannel h = c → (heaterOf h t).base = 0))
      ∧ t = { s.deliveredAs t with chan.h0 := t.chan.h0, chan.h1 := t.chan.h1, chan.fan := t.chan.fan, note.pending := t.note.pending }
      ∧ (let locks := 2 ≤ young.length
         let tripped : State :=
           setChannel c
             { x with
               holdOff := true, trips := young ++ [s.clock.now], flags := x.flags ||| 1, conds := x.conds ||| 1, summary := y.summary
               state := if locks then .lockedOff else x.state, applied := if locks then 0 else x.applied }
             { s with
               chan.h0.base := if locks ∧ c = .h0 then 0 else s.chan.h0.base
               chan.h1.base := if locks ∧ c = .h1 then 0 else s.chan.h1.base
               note.pending := if x.summary = false ∧ y.summary = true then s.note.pending ||| 2#13 else s.note.pending }
         t = (tripped.deliveredAs t).switchedAs t))
  ∧ (∀ (c : ChannelId) (s : State), s.powered = true →
    let x := channelOf c s
    let young := x.trips.filter fun t => decide (s.clock.now < t + 60000000)
    (x.state = .lockedOff → exec (.tripAgeOut c) s = .next s)
    ∧ (x.state ≠ .lockedOff → young ≠ x.trips →
        exec (.tripAgeOut c) s = .next
          (setChannel c { x with trips := young, conds := if young = [] then x.conds &&& ~~~1#3 else x.conds } s)))

/-- R49, R50, R51: a heater diagnostic that holds for 50 ms sets its flag and condition, and with them the summary; 50 ms of the opposite clears
the condition and leaves the flag. -/
def Obligations.HeaterDiagnostics : Prop :=
  ∀ (h : HeaterId) (s : State), s.powered = true →
    let c := heaterChannel h
    let x := channelOf c s
    let mask := if h = .h0 then s.cfg.channels.mask0 else s.cfg.channels.mask1
    let found (bit : BitVec 3) (t : State) : Prop :=
      let summary : Bool := decide ((x.flags ||| bit) &&& mask ≠ 0)
      SameButDeliveries
        { setChannel c { x with flags := x.flags ||| bit, conds := x.conds ||| bit, summary := summary } s with
          note.pending := if x.summary = false ∧ summary = true then s.note.pending ||| 2#13 else s.note.pending } t
    (HasRun (heaterOf h s).openFrom 50000 s → Nexts (exec (.openLoadDetected h) s) (found 2))
    ∧ (HasRun (heaterOf h s).shortFrom 50000 s → Nexts (exec (.shortToSupplyDetected h) s) (found 4))
    ∧ (HasRun (heaterOf h s).goodFrom 50000 s →
        exec (.openLoadCleared h) s = .next (setChannel c { x with conds := x.conds &&& ~~~2#3 } s))
    ∧ (HasRun (heaterOf h s).lowFrom 50000 s →
        exec (.shortToSupplyCleared h) s = .next (setChannel c { x with conds := x.conds &&& ~~~4#3 } s))

/-- R45, R46, R51: the tach, and the stall: each measurement gives the speed, and the stall dwell goes on, starts or ends by it. -/
def Obligations.TachAndStall : Prop :=
  ∀ s : State, s.powered = true →
    let x := s.chan.fan
    (x.lastPulse = none → exec .tachPulse s = .next { s with chan.fan.lastPulse := some s.clock.now })
    ∧ (∀ p : Nat, x.lastPulse = some p → Nexts (exec .tachPulse s) fun t =>
        t.chan.fan.speed = (if s.clock.now - p ≤ 1500 then 20000 else 30000000 / (s.clock.now - p))
        ∧ t.chan.fan.lastPulse = some s.clock.now
        ∧ t.chan.fan.ch.conds = (if 600 ≤ t.chan.fan.speed ∧ 16 ≤ x.ch.applied then x.ch.conds &&& ~~~2#3 else x.ch.conds)
        ∧ t.chan.fan.stallFrom =
            (if 16 ≤ x.ch.applied ∧ x.ch.holdOff = false ∧ t.chan.fan.speed < 600 then some (x.stallFrom.getD s.clock.now) else none)
        ∧ t.chan.fan.ch.flags = x.ch.flags
        ∧ t = { s with chan.fan := { t.chan.fan with
                  running := x.running
                  ch := { x.ch with conds := t.chan.fan.ch.conds, on := t.chan.fan.ch.on, overFrom := t.chan.fan.ch.overFrom } } })
    ∧ (HasRun x.lastPulse 1000000 s → Nexts (exec .tachTimeout s) fun t =>
        t.chan.fan.speed = 0 ∧ t.chan.fan.lastPulse = none ∧ t.chan.fan.ch.flags = x.ch.flags ∧ t.chan.fan.ch.conds = x.ch.conds
        ∧ t.chan.fan.stallFrom = (if 16 ≤ x.ch.applied ∧ x.ch.holdOff = false then some (x.stallFrom.getD s.clock.now) else none)
        ∧ t = { s with chan.fan := { t.chan.fan with
                  running := x.running, ch := { x.ch with on := t.chan.fan.ch.on, overFrom := t.chan.fan.ch.overFrom } } })
    ∧ (HasRun x.stallFrom 5000000 s → Nexts (exec .stallDetected s) fun t =>
        let summary : Bool := decide ((x.ch.flags ||| 2) &&& s.cfg.channels.maskF &&& 1 ≠ 0)
        SameButDeliveries
          { s with
            chan.fan.ch := { x.ch with flags := x.ch.flags ||| 2, conds := x.ch.conds ||| 2, summary := summary }
            note.pending := s.note.pending
              ||| (if x.ch.summary = false ∧ summary = true then 2#13 else 0)
              ||| (if x.ch.flags &&& 2 = 0 ∧ s.cfg.channels.maskF &&& 2 ≠ 0 then 4#13 else 0) } t)

/-- R54, R55: HEAT_INH# low forces both heaters off with an allocation at once; high for 100 ms it releases them to the ramp from 0, with an
allocation too. That a fall acts in full also while a release is being judged is the model's reading (log entry 29). -/
def Obligations.HeatInhibit : Prop :=
  ∀ s : State, s.powered = true →
    (s.pins.heatInhLow = false → Nexts (exec .heatInhAssert s) fun t =>
      t.pins.heatInhLow = true ∧ t.chan.inhibit = true ∧ t.chan.inhRise = none
      ∧ t.chan.h0.ch.applied = 0 ∧ t.chan.h0.ch.on = false ∧ t.chan.h0.base = 0
      ∧ t.chan.h1.ch.applied = 0 ∧ t.chan.h1.ch.on = false ∧ t.chan.h1.base = 0
      ∧ t.chan.h0.ch.state = (if s.chan.h0.ch.state = .lockedOff then .lockedOff else .inhibited)
      ∧ t.chan.h1.ch.state = (if s.chan.h1.ch.state = .lockedOff then .lockedOff else .inhibited)
      ∧ t.bud.last.h0Charge = 0 ∧ t.bud.last.h1Charge = 0
      ∧ t = { (s.allocatedAs t).deliveredAs t with pins.heatInhLow := true, chan.inhibit := true, chan.inhRise := none }
      ∧ (let forced (x : Heater) : Heater :=
           { x with base := 0, ch := { x.ch with applied := 0, state := if x.ch.state = .lockedOff then .lockedOff else .inhibited } }
         SameButDeliveries
           (allocate s.lines.pwrEn (syncSwitches
             { s with
               pins.heatInhLow := true
               chan := { s.chan with inhibit := true, inhRise := none, h0 := forced s.chan.h0, h1 := forced s.chan.h1 } })) t))
    ∧ (s.pins.heatInhLow = true → exec .heatInhRise s = .next
        { s with pins.heatInhLow := false, chan.inhRise := if s.chan.inhibit then some s.clock.now else none })
    ∧ (s.chan.inhibit = true → HasRun s.chan.inhRise 100000 s → Nexts (exec .heatInhRelease s) fun t =>
        t.chan.inhibit = false ∧ t.chan.inhRise = none
        ∧ (s.chan.h0.ch.state = .inhibited → t.chan.h0.ch.state ∈ [.off, .active] ∧ t.chan.h0.ch.offered ≤ 8)
        ∧ (s.chan.h1.ch.state = .inhibited → t.chan.h1.ch.state ∈ [.off, .active] ∧ t.chan.h1.ch.offered ≤ 8)
        ∧ t = { (s.allocatedAs t).deliveredAs t with chan.inhibit := false, chan.inhRise := none }
        ∧ (let released (x : Heater) : Heater :=
             if x.ch.state = .inhibited then { x with base := 0, ch := { x.ch with applied := 0, state := .off } } else x
           SameButDeliveries
             (allocate s.lines.pwrEn
               { s with chan := { s.chan with inhibit := false, inhRise := none, h0 := released s.chan.h0, h1 := released s.chan.h1 } }) t))

/-- R67 to R70: a level frame from the computer is clamped to the ceiling and becomes the template; at an allocation the record sends one of its own
exactly when one is due. -/
def Obligations.LevelFrames : Prop :=
  (∀ (f : Frame) (i : Nat) (s : State), i < f.payload.length →
    let r := computerLevel f i s
    let level := (f.payload.getD i 0).toNat
    let above := decide (s.bud.back.ceiling < level)
    let kept := s.link.down.filter fun x => decide (x.mark ≠ .own)
    let sent : Frame :=
      if above then mkFrame f.dst f.src f.cls (f.payload.set i (byte s.bud.back.ceiling)) else f
    r.2 = above
    ∧ r.1.bud.back.lReq = level ∧ r.1.bud.back.clamped = above
    ∧ r.1.bud.back.template = some sent ∧ r.1.bud.back.levelOffset = some i ∧ r.1.bud.back.ceiling = s.bud.back.ceiling
    ∧ (s.link.b.stalled = false → kept.length < 8 →
        r.1.link.down = kept ++ [{ frame := sent, mark := .computer }] ∧ r.1.bud.back.resend = false
        ∧ (s.bud.back.ceiling ≤ 255 → r.1.bud.back.lFwd = min level s.bud.back.ceiling ∧ r.1.bud.back.unenforced = false))
    ∧ (s.link.b.stalled = true ∨ 8 ≤ kept.length →
        r.1.link.down = kept ∧ r.1.bud.back.resend = true ∧ r.1.bud.back.lFwd = s.bud.back.lFwd))
  ∧ (∀ s : State,
    let b := s.bud.back
    let due := b.resend = true ∨ b.ceiling < b.lFwd ∨ (b.lFwd < b.ceiling ∧ b.clamped = true)
    let kept := s.link.down.filter fun x => decide (x.mark ≠ .own)
    (b.template = none ∨ ¬ due → sendLevel s = s)
    ∧ ∀ f : Frame, b.template = some f → due →
        let sent := mkFrame f.dst f.src f.cls (f.payload.set (b.levelOffset.getD 0) (byte b.ceiling))
        (s.link.b.stalled = false → kept.length < 8 →
          (sendLevel s).link.down = kept ++ [{ frame := sent, mark := .own }]
          ∧ (sendLevel s).bud.back = { b with lFwd := b.ceiling, resend := false, clamped := decide (b.ceiling < b.lReq) })
        ∧ (s.link.b.stalled = true ∨ 8 ≤ kept.length →
          (sendLevel s).link.down = kept ∧ (sendLevel s).bud.back = { b with resend := true }))

/-! ## The panel link -/

/-- R77: the check changes with every change of a single byte, wherever it stands. -/
def Obligations.CheckSeesEveryChangedByte : Prop :=
  ∀ (before after : List Byte) (x y : Byte), x ≠ y → crc16 (before ++ x :: after) ≠ crc16 (before ++ y :: after)

/-- R78, R157: a frame taken byte by byte is built up in the assembly, and its last byte is the arrival of the whole frame, which is the row
FRAME_RECEIVED by the model's choice (log entry 28). -/
def Obligations.BytesBuildTheFrame : Prop :=
  ∀ (p : PortId) (f : Frame) (k : Nat) (s : State), s.powered = true → f.payload.length ≤ 32 →
    (portOf p s).assembly = (frameBytes f).take k →
    (k + 1 < 7 + f.payload.length →
      exec (.byteReceived p ((frameBytes f).getD k 0) true) s = .next
        (setPort p { portOf p s with assembly := (frameBytes f).take (k + 1), lastByte := s.clock.now } s))
    ∧ (k + 1 = 7 + f.payload.length → exec (.byteReceived p ((frameBytes f).getD k 0) true) s = exec (.frameReceived p f) s)

/-- R75, R78, R79: outside a frame a byte that is no SYNC is passed over, and a character with its stop bit low is no byte; a whole frame is good
when its check matches, and else counted and searched again from the byte after its SYNC; so are the bytes of a frame whose length is above 32, and a
gap above 5 ms ends one. That FRAME_RECEIVED brings its frame whole whatever the assembly held, and that LENGTH_ABORT is the fifth byte, is the
model's choice (log entry 28). -/
def Obligations.ReceiverFaults : Prop :=
  ∀ (p : PortId) (s : State), s.powered = true →
    let x := portOf p s
    (∀ b : Byte, exec (.byteReceived p b false) s = .next s)
    ∧ (∀ b : Byte, x.assembly = [] → b ≠ 0xD2 →
        exec (.byteReceived p b true) s = .next (setPort p { x with lastByte := s.clock.now } s))
    ∧ (∀ f : Frame, f.payload.length ≤ 32 → checkMatches f = true →
        let u := goodFrame p f s
        exec (.frameReceived p f) s = .next (setPort p { portOf p u with assembly := [], lastByte := s.clock.now } u))
    ∧ (∀ f : Frame, f.payload.length ≤ 32 → checkMatches f = false → 0xD2 ∉ (frameBytes f).tail →
        exec (.frameReceived p f) s = .next
          (setPort p { x with
            assembly := [], lastByte := s.clock.now, counters := { x.counters with check := min 65535 (x.counters.check + 1) } } s))
    ∧ (∀ f : Frame, f.payload.length ≤ 32 → checkMatches f = false →
        exec (.frameReceived p f) s = .next
          (receive p (frameBytes f).tail (setPort p { x with counters := { x.counters with check := min 65535 (x.counters.check + 1) } } s)))
    ∧ (∀ l : List Byte,
        let u (q : List Byte) (v : State) : State := setPort p { portOf p v with assembly := q, lastByte := v.clock.now } v
        (0xD2 ∉ l → receive p l s = u [] s)
        ∧ (∀ before rest, l = before ++ 0xD2 :: rest → 0xD2 ∉ before →
            (rest.length < 4 → receive p l s = u (0xD2 :: rest) s)
            ∧ (∀ d r c n tail, rest = d :: r :: c :: n :: tail →
                (32 < n.toNat → receive p l s =
                  receive p rest (setPort p { x with counters := { x.counters with length := min 65535 (x.counters.length + 1) } } s))
                ∧ (n.toNat ≤ 32 → tail.length < n.toNat + 2 → receive p l s = u (0xD2 :: rest) s)
                ∧ (∀ f : Frame, f.payload.length ≤ 32 → ∀ more, 0xD2 :: rest = frameBytes f ++ more →
                    (checkMatches f = true → receive p l s = receive p more (goodFrame p f s))
                    ∧ (checkMatches f = false → receive p l s =
                        receive p rest (setPort p { x with counters := { x.counters with check := min 65535 (x.counters.check + 1) } } s))))))
    ∧ (∀ d r c n : Byte, x.assembly = [0xD2, d, r, c] → 32 < n.toNat →
        exec (.lengthAbort p n) s = .next
          (setPort p { x with
            assembly := dropToSync [d, r, c, n], lastByte := s.clock.now
            counters := { x.counters with length := min 65535 (x.counters.length + 1) } } s)
        ∧ exec (.byteReceived p n true) s = exec (.lengthAbort p n) s)
    ∧ (x.assembly ≠ [] → x.lastByte + 5000 < s.clock.now →
        exec (.frameGapTimeout p) s = .next
          (setPort p { x with assembly := [], counters := { x.counters with timeout := min 65535 (x.counters.timeout + 1) } } s))

/-- R82, R84, R143: a good frame is counted and routed by the first test that decides it. That a frame to 0Fh of another class is MISROUTED also with
the upstream queue full is the model's reading (log entry 12); that the NOTICE test and the KEY deliveries of `settle` come at the end of the event, behind
a forwarded frame, is its choice (log entry 6). -/
def Obligations.GoodFramesAreRouted : Prop :=
  ∀ (f : Frame) (s : State),
    let g := { s with link.c.counters.good := min 65535 (s.link.c.counters.good + 1) }
    let lost := { g with link.c.counters.misrouted := min 65535 (s.link.c.counters.misrouted + 1) }
    let h := { s with link.b.counters.good := min 65535 (s.link.b.counters.good + 1) }
    let lostB := { h with link.b.counters.misrouted := min 65535 (s.link.b.counters.misrouted + 1) }
    (s.lines.pcRst = true →
      (s.sup.openRecord = false → goodFrame .c f s = { g with link.c.counters.resetDiscard := min 65535 (s.link.c.counters.resetDiscard + 1) })
      ∧ (∀ (older : List RestartRecord) (r : RestartRecord), s.sup.openRecord = true → s.sup.history = older ++ [r] →
          goodFrame .c f s = { g with
            link.c.counters.resetDiscard := min 65535 (s.link.c.counters.resetDiscard + 1)
            sup.history := older ++ [{ r with lateCount := min 255 (r.lateCount + 1) }] }))
    ∧ (s.lines.pcRst = false →
        (f.src ≠ 0x01 → goodFrame .c f s = lost)
        ∧ (f.src = 0x01 → f.dst = 0x0F → (f.cls.toNat < 0x40 ∨ 0x5F < f.cls.toNat) → goodFrame .c f s = lost)
        ∧ (f.src = 0x01 → f.dst = 0x0F → 0x40 ≤ f.cls.toNat → f.cls.toNat ≤ 0x5F → s.link.up.length ≤ 11 →
            goodFrame .c f s = runCommand f.cls f.payload s.sup.arm.isSome { g with sup.arm := none })
        ∧ (f.src = 0x01 → f.dst = 0x0F → 0x40 ≤ f.cls.toNat → f.cls.toNat ≤ 0x5F → 12 ≤ s.link.up.length →
            SameButDeliveries
              { g with
                link.c.counters.overflow := min 65535 (s.link.c.counters.overflow + 1)
                note.pending := s.note.pending ||| 128#13 } (goodFrame .c f s))
        ∧ (f.src = 0x01 → (f.dst = 0x00 ∨ (0x20 ≤ f.dst.toNat ∧ f.dst.toNat ≤ 0x3F)) → goodFrame .c f s = settle (passFrame .down f g))
        ∧ (f.src = 0x01 → f.dst ≠ 0x0F → f.dst ≠ 0x00 → (f.dst.toNat < 0x20 ∨ 0x3F < f.dst.toNat) → goodFrame .c f s = lost))
    ∧ (f.src.toNat < 0x20 ∨ 0x3F < f.src.toNat → goodFrame .b f s = lostB)
    ∧ (0x20 ≤ f.src.toNat → f.src.toNat ≤ 0x3F →
        (f.dst = 0x01 ∨ f.dst = 0x00 → goodFrame .b f s = settle (passFrame .up f h))
        ∧ (f.dst ≠ 0x01 → f.dst ≠ 0x00 → goodFrame .b f s = lostB))

/-- R143, R144: each command row is the arrival on the C-port of that command's good frame, discarded, counted or refused with it: the model's
reading of these rows (log entry 12). -/
def Obligations.CommandRowsAreTheirFrames : Prop :=
  ∀ (p : List Byte) (check : Word16) (s : State), s.powered = true →
    let arrives (cls : Byte) : Host.Outcome State Fault Refusal := .next
      (goodFrame .c { dst := 0x0F, src := 0x01, cls := cls, payload := p, check := check } s)
    exec (.getStatus p) s = arrives 0x40 ∧ exec (.getCause p) s = arrives 0x41 ∧ exec (.setCauseEnables p) s = arrives 0x42
    ∧ exec (.setTime p) s = arrives 0x43 ∧ exec (.getHistory p) s = arrives 0x44 ∧ exec (.pulse p) s = arrives 0x45
    ∧ exec (.getLinkCounters p) s = arrives 0x46 ∧ exec (.clearCounters p) s = arrives 0x47
    ∧ exec (.setPassEntry p) s = arrives 0x48 ∧ exec (.getPassEntry p) s = arrives 0x49 ∧ exec (.setAnswer p) s = arrives 0x4A
    ∧ exec (.getAnswer p) s = arrives 0x4B ∧ exec (.setDefaultActions p) s = arrives 0x4C
    ∧ exec (.setThermal p) s = arrives 0x50 ∧ exec (.getThermal p) s = arrives 0x51 ∧ exec (.setBudget p) s = arrives 0x52
    ∧ exec (.getChannelDiag p) s = arrives 0x53 ∧ exec (.clearChannelLock p) s = arrives 0x54 ∧ exec (.setKeypad p) s = arrives 0x55
    ∧ exec (.setWatchdog p) s = arrives 0x58 ∧ exec (.suspendWatchdog p) s = arrives 0x59 ∧ exec (.resumeWatchdog p) s = arrives 0x5A
    ∧ exec (.armRestart p) s = arrives 0x5B ∧ exec (.restart p) s = arrives 0x5C ∧ exec (.setKeymap p) s = arrives 0x5D
    ∧ exec (.setChord p) s = arrives 0x5E ∧ exec (.storeSettings p) s = arrives 0x5F
    ∧ ∀ cls : Byte, cls ∈ [0x4D, 0x4E, 0x4F, 0x56, 0x57] → exec (.unknownCommand cls p) s = arrives cls

/-- R70, R80, R81, R87, R88: a BREAK on the C-port is a link reset once RX has been low for 20 ms out of reset, measured from its fall or from the
release of PC_RST#, and once in a low period; the row carries the instant of the fall by the model's choice (log entry 28). And the stall timer, with
what the entry to STALLED flushes; that RDY_IN asserted starts the transmitter in the same event is the model's reading (log entry 19). -/
def Obligations.LinkResetAndStalls : Prop :=
  (∀ s : State, s.powered = true →
    (∀ fell : Nat,
      exec (.rxBreak ⟨.b, fell⟩) s = .next s
      ∧ (s.lines.pcRst = true → exec (.rxBreak ⟨.c, fell⟩) s = .next s)
      ∧ (s.clock.now < fell + 20000 → exec (.rxBreak ⟨.c, fell⟩) s = .next s)
      ∧ (s.clock.now < s.link.rxFrom + 20000 → exec (.rxBreak ⟨.c, fell⟩) s = .next s)
      ∧ (s.link.rxJudged = some fell → exec (.rxBreak ⟨.c, fell⟩) s = .next s))
    ∧ (∀ fell : Nat, s.lines.pcRst = false → fell + 20000 ≤ s.clock.now → s.link.rxFrom + 20000 ≤ s.clock.now → s.link.rxJudged ≠ some fell →
      Nexts (exec (.rxBreak ⟨.c, fell⟩) s) fun t =>
        t = { s with
              link.rxJudged := some fell
              link.c.assembly := [], link.c.stalled := false, link.c.stallFrom := t.link.c.stallFrom
              link.b.assembly := [], link.b.stalled := false, link.b.stallFrom := none
              link.down := [], link.up := t.link.up
              bud.back.resend := s.bud.back.resend || s.link.down.any (fun x => decide (x.mark ≠ .unmarked))
              sup.arm := none, keys.queue := t.keys.queue, keys.loss := t.keys.loss
              note.outstanding := t.note.outstanding, note.statusPart2 := false }
        ∧ (s.ctl.phase ≠ .run → t.link.up = [] ∧ t.note.outstanding = false ∧ t.link.c.stallFrom = none)
        ∧ (s.ctl.phase = .run → (∀ f ∈ t.link.up, f.rank = .notice ∨ f.rank = .key)
            ∧ (t.note.outstanding = true ↔ s.note.pending &&& s.cfg.enables ≠ 0))))
  ∧ (∀ s : State, s.powered = true →
    (∀ p : PortId, exec (.rdyInChange p true) s = exec (.transmitStart p)
        (setPort p { portOf p s with stalled := false, stallFrom := none } (setRdyIn p true s)))
    ∧ (∀ p : PortId, exec (.rdyInChange p false) s = .next
        (setPort p { portOf p s with
          stallFrom := if (portOf p s).stalled = false ∧ holdsFrame p s = true then some ((portOf p s).stallFrom.getD s.clock.now) else none }
          (setRdyIn p false s)))
    ∧ (s.link.b.stalled = false → HasRun s.link.b.stallFrom 500000 s → Nexts (exec (.portStalled .b) s) fun t =>
        SameButDeliveries
          { s with
            link.down := [], link.b.stalled := true, link.b.stallFrom := none
            link.b.counters.stallDiscard := min 65535 (s.link.b.counters.stallDiscard + s.link.down.length)
            bud.back.resend := s.bud.back.resend || s.link.down.any (fun x => decide (x.mark ≠ .unmarked))
            note.pending := s.note.pending ||| 128#13 } t)
    ∧ (s.link.c.stalled = false → HasRun s.link.c.stallFrom 500000 s → Nexts (exec (.portStalled .c) s) fun t =>
        let kept := s.link.up.filter fun x => decide (x.rank ≠ .forwarded)
        kept <+: t.link.up
        ∧ t.link.c.stallFrom = none
        ∧ SameButDeliveries
          { s with
            link.c.stalled := true
            link.c.counters.stallDiscard := min 65535 (s.link.c.counters.stallDiscard + (s.link.up.length - kept.length))
            note.pending := s.note.pending ||| 128#13 } t))

/-- R76, R83 to R86, R88: admission to the two queues, the arbiter's choice and the two RDY_OUT lines; and the transmitters, which start a frame while
free, with RDY_IN asserted and one waiting. That a frame offered to the STALLED C-port counts as a stall discard also with the queue full is the model's
reading (log entry 23), as is that TRANSMIT_COMPLETE starts the next frame itself (log entry 19); that the row acts whenever a frame is in the
transmitter is the model's choice (log entry 10). -/
def Obligations.QueuesAndTransmitters : Prop :=
  ((∀ (received : Bool) (f : DownFrame) (s : State),
    let r := offerDown received f s
    (s.link.b.stalled = true → r = ({ s with link.b.counters.stallDiscard := min 65535 (s.link.b.counters.stallDiscard + 1) }, false))
    ∧ (s.link.b.stalled = false → s.link.down.length < 8 → r.2 = true
        ∧ r.1 = { s with link.down := s.link.down ++ [f], link.b.stallFrom := r.1.link.b.stallFrom })
    ∧ (s.link.b.stalled = false → 8 ≤ s.link.down.length → r.2 = false
        ∧ r.1 = (if received then { s with
                    link.c.counters.overflow := min 65535 (s.link.c.counters.overflow + 1), note.pending := s.note.pending ||| 128#13 } else s)))
  ∧ (∀ (received : Bool) (f : Frame) (s : State),
    let r := offerForwarded received f s
    (s.link.c.stalled = true → r = ({ s with link.c.counters.stallDiscard := min 65535 (s.link.c.counters.stallDiscard + 1) }, false))
    ∧ (s.link.c.stalled = false → s.link.up.length ≤ 10 → r.2 = true
        ∧ r.1 = { s with link.up := s.link.up ++ [{ frame := f, rank := .forwarded }], link.c.stallFrom := r.1.link.c.stallFrom })
    ∧ (s.link.c.stalled = false → 11 ≤ s.link.up.length → r.2 = false
        ∧ r.1 = (if received then { s with
                    link.b.counters.overflow := min 65535 (s.link.b.counters.overflow + 1), note.pending := s.note.pending ||| 128#13 } else s)))
  ∧ (∀ q : List UpFrame,
    (takeByRank q = none ↔ q = [])
    ∧ ∀ f rest, takeByRank q = some (f, rest) → ∃ i < q.length,
        q[i]? = some f ∧ rest = q.eraseIdx i
        ∧ (∀ g ∈ q.take i, f.rank.code < g.rank.code) ∧ ∀ g ∈ q.drop (i + 1), f.rank.code ≤ g.rank.code)
  ∧ ∀ s : State, (rdyOut .c s = true ↔ s.link.down.length < 8) ∧ (rdyOut .b s = true ↔ s.link.up.length < 11))
  ∧ (∀ s : State, s.powered = true →
    (∀ p : PortId, (portOf p s).sending.isSome = true ∨ rdyIn p s = false ∨ holdsFrame p s = false → exec (.transmitStart p) s = .next s)
    ∧ (∀ p : PortId, (portOf p s).sending.isSome = true → rdyIn p s = false ∨ holdsFrame p s = false →
        exec (.transmitComplete p) s = .next (setPort p { portOf p s with sending := none } s))
    ∧ (∀ f rest, s.pins.rdyB = true → s.link.down = f :: rest →
        let t : State :=
          { s with link.down := rest, link.b.stallFrom := none, link.b.sending := some { frame := f.frame, since := s.clock.now } }
        (s.link.b.sending = none → exec (.transmitStart .b) s = .next t)
        ∧ (s.link.b.sending.isSome = true → exec (.transmitComplete .b) s = .next t))
    ∧ (∀ f rest, s.pins.rdyC = true → takeByRank s.link.up = some (f, rest) →
        let starts (t : State) : Prop :=
          rest <+: t.link.up ∧ SameButDeliveries { s with link.c.sending := some { frame := f.frame, since := s.clock.now } } t
        (s.link.c.sending = none → Nexts (exec (.transmitStart .c) s) starts)
        ∧ (s.link.c.sending.isSome = true → Nexts (exec (.transmitComplete .c) s) starts)))

/-! ## The pass table -/

/-- R92 to R95, R107: the first entry in index order that fits takes a frame, with one hit and its stamp; where none fits, the default action of
the direction is taken and nothing is counted. -/
def Obligations.FirstFittingEntryTakesTheFrame : Prop :=
  (∀ (d : PassDef) (dir : Direction) (f : Frame) (phase : Phase),
    fits d dir f phase = true ↔
      d.active = true ∧ d.direction = dir
      ∧ (d.nodeAny = true ∨ d.node = (if dir = .down then f.dst else f.src))
      ∧ f.cls &&& d.clsMask = d.clsValue
      ∧ (d.selectorPresent = true → f.payload.head? = some d.selector)
      ∧ d.phases.getLsbD (phase.code - 1) = true)
  ∧ ∀ (dir : Direction) (f : Frame) (s : State), s.pass.length = s.cfg.pass.length →
      let fit (i : Nat) : Bool := (s.cfg.pass[i]?).any fun d => fits d dir f s.ctl.phase
      (∀ i d c, s.cfg.pass[i]? = some d → s.pass[i]? = some c → fit i = true → (∀ j < i, fit j = false) →
        passFrame dir f s = performAction i d dir f
          { s with pass := s.pass.set i { c with hits := min 65535 (c.hits + 1), lastHit := some s.clock.cabinet } })
      ∧ ((∀ i < s.cfg.pass.length, fit i = false) →
          passFrame dir f s =
            (if (if dir = .down then s.cfg.defaultDown else s.cfg.defaultUp) = .drop then s
             else if dir = .down then (offerDown true { frame := f, mark := .unmarked } s).1
             else if s.lines.pcRst then s else (offerForwarded true f s).1))

/-- R96 to R100: what each action does with the frame it has taken. R98 has neither the offer of a heartbeat nor its forwarding depend on the other; that
the test of R150 of an entry to RUN stands between them, ahead of the forwarding and of the LINK_FAULT it may raise, is the model's choice (log entry 6). -/
def Obligations.PassActions : Prop :=
  ∀ (i : Nat) (d : PassDef) (f : Frame) (s : State),
    (d.action = .drop → performAction i d .down f s = s ∧ performAction i d .up f s = s)
    ∧ (d.action = .forward →
        performAction i d .down f s = (offerDown true { frame := f, mark := .unmarked } s).1
        ∧ (s.lines.pcRst = true → performAction i d .up f s = s)
        ∧ (s.lines.pcRst = false → performAction i d .up f s = (offerForwarded true f s).1))
    ∧ (d.action = .heartbeat →
        let token := if d.tokenOffset = 0xFF then none else f.payload[d.tokenOffset.toNat]?
        let r := offerHeartbeat (.entry i) token s
        let counted := sendNotice (if r.2 = some false then countSpecial i r.1 else r.1)
        performAction i d .down f s = (if d.forward then (offerDown true { frame := f, mark := .unmarked } counted).1 else counted))
    ∧ (d.action = .clampLevel →
        (f.payload.length ≤ d.levelOffset.toNat → performAction i d .down f s = countSpecial i s)
        ∧ (d.levelOffset.toNat < f.payload.length →
            let r := computerLevel f d.levelOffset.toNat s
            performAction i d .down f s = if r.2 then countSpecial i r.1 else r.1))
    ∧ (d.action = .answer →
        let g := answerFrame d.answerIndex.toNat f s
        let u := offerDown false { frame := g, mark := .unmarked } s
        let v := offerForwarded false g s
        performAction i d .up f s = (if u.2 then u.1 else countSpecial i u.1)
        ∧ performAction i d .down f s = (if v.2 then v.1 else countSpecial i v.1))

/-- R100, R101, R37: the answer frame goes back to the requester from the address it asked, with the template's bytes and, over them, the live
fields at their offsets. Soak remaining counts from the T_soak of the last sample by the model's reading (log entry 26). -/
def Obligations.AnswerFrames : Prop :=
  ∀ (i : Nat) (a : Answer) (f : Frame) (s : State), s.cfg.answers[i]? = some a → liveFieldsFit a = true →
    let g := answerFrame i f s
    let p := a.phaseOffset.toNat
    let b := a.boardOffset.toNat
    let r := a.soakOffset.toNat
    let soak : Nat :=
      if s.sens.gate.satisfied = false then 65535 else if s.sens.gate.complete then 0
      else (s.sens.gate.span * 1000 - s.sens.gate.soakMs + 999) / 1000
    g.dst = f.src ∧ g.src = (if f.dst = 0x00 then 0x0F else f.dst) ∧ g.cls = a.cls ∧ checkMatches g = true
    ∧ g.payload.length = a.template.length
    ∧ (p ≠ 255 → g.payload[p]? = some (byte s.ctl.phase.code))
    ∧ (b ≠ 255 → (g.payload.drop b).take 2 = s.sens.effBoard.elim [0x80, 0x00] beInt)
    ∧ (r ≠ 255 → (g.payload.drop r).take 2 = be16 soak)
    ∧ ∀ n < a.template.length, n ≠ p → (b = 255 ∨ n ≠ b ∧ n ≠ b + 1) → (r = 255 ∨ n ≠ r ∧ n ≠ r + 1) → g.payload[n]? = a.template[n]?

/-! ## The management commands -/

/-- R144: a payload of a length that a command does not have is refused with BAD_LENGTH and nothing else changes; a class that names no command is
refused with UNKNOWN. -/
def Obligations.WrongLengthsAreRefused : Prop :=
  ∀ (p : List Byte) (s : State), TakesCommands s →
    let bad (cls : Byte) : Host.Outcome State Fault Refusal := .next (replied cls [0x11] s)
    let n := p.length
    let at_ (i : Nat) : Nat := (p.getD i 0).toNat
    (n ≠ 0 → exec (.getStatus p) s = bad 0x40 ∧ exec (.getCause p) s = bad 0x41 ∧ exec (.getLinkCounters p) s = bad 0x46
      ∧ exec (.clearCounters p) s = bad 0x47 ∧ exec (.getChannelDiag p) s = bad 0x53 ∧ exec (.resumeWatchdog p) s = bad 0x5A
      ∧ exec (.armRestart p) s = bad 0x5B ∧ exec (.storeSettings p) s = bad 0x5F)
    ∧ (n ≠ 1 → exec (.getPassEntry p) s = bad 0x49 ∧ exec (.getAnswer p) s = bad 0x4B ∧ exec (.getThermal p) s = bad 0x51
      ∧ exec (.clearChannelLock p) s = bad 0x54 ∧ exec (.restart p) s = bad 0x5C)
    ∧ (n ≠ 2 → exec (.setCauseEnables p) s = bad 0x42 ∧ exec (.getHistory p) s = bad 0x44 ∧ exec (.setDefaultActions p) s = bad 0x4C
      ∧ exec (.suspendWatchdog p) s = bad 0x59)
    ∧ (n ≠ 4 → exec (.setTime p) s = bad 0x43) ∧ (1 < n → exec (.pulse p) s = bad 0x45) ∧ (n ≠ 15 → exec (.setPassEntry p) s = bad 0x48)
    ∧ (n ≠ 20 → exec (.setThermal p) s = bad 0x50) ∧ (n ≠ 8 → exec (.setBudget p) s = bad 0x52 ∧ exec (.setWatchdog p) s = bad 0x58)
    ∧ (n ≠ 11 → exec (.setKeypad p) s = bad 0x55) ∧ (n ≠ 9 → exec (.setChord p) s = bad 0x5E)
    ∧ (n < 6 ∨ 16 < at_ 5 ∨ n ≠ 6 + at_ 5 → exec (.setAnswer p) s = bad 0x4A)
    ∧ (n < 6 ∨ at_ 1 = 0 ∨ 16 < at_ 1 ∨ n ≠ 6 + at_ 1 → exec (.setKeymap p) s = bad 0x5D)
    ∧ ∀ cls : Byte, cls ∈ [0x4D, 0x4E, 0x4F, 0x56, 0x57] → exec (.unknownCommand cls p) s = .next (replied cls [0x17] s)

/-- R146 to R148, R160 to R162: the commands that read: the status record in its two parts by turns, the history newest first, and the link
counters, with their layouts. Soak remaining counts from the T_soak of the last sample by the model's reading (log entry 26); that the bits of the
status bytes that R161 does not name are 0 is its choice (log entry 48). -/
def Obligations.StatusHistoryAndCounters : Prop :=
  ∀ s : State, TakesCommands s →
    let bit (n : Nat) (b : Bool) : Byte := if b then BitVec.ofNat 8 (2 ^ n) else 0
    let left (e : Nat) : Nat := (e - s.clock.now + 999999) / 1000000
    (exec (.getStatus []) s = .next
      (replied 0x40 (0x00 :: if s.note.statusPart2 then statusPart2 s else statusPart1 s) { s with note.statusPart2 := !s.note.statusPart2 }))
    ∧ statusPart1 s =
        [byte (16 + s.ctl.phase.code),
         (if s.pins.pwrgood then 1 else 0) + (if s.chan.cooling.degraded then 2 else 0) + (if s.link.c.stalled then 4 else 0)
           + (if s.link.b.stalled then 8 else 0)]
        ++ be32 s.clock.uptime ++ be32 s.clock.timeInPhase ++ be32 s.clock.cabinet.toNat
        ++ s.sens.effAir.elim [0x80, 0x00] beInt ++ s.sens.effDisplay.elim [0x80, 0x00] beInt ++ s.sens.effBoard.elim [0x80, 0x00] beInt
        ++ [byte s.sens.air.state.code, byte s.sens.display.state.code, byte s.sens.board.state.code,
            (if s.sens.gate.satisfied = false then 0 else if s.sens.gate.complete then 2 else 1)]
        ++ be16 (soakRemaining s) ++ be32 (s.sens.gate.since.getD 4294967295)
    ∧ (statusPart2 s).length = 31 ∧ (statusPart2 s).take 5 = byte (32 + s.ctl.phase.code) :: be32 s.clock.uptime
    ∧ statusPart2 s =
        byte (32 + s.ctl.phase.code) :: be32 s.clock.uptime
        ++ [byte s.chan.h0.ch.state.code, byte s.chan.h1.ch.state.code, byte s.chan.fan.ch.state.code]
        ++ [byte s.chan.h0.ch.applied, byte s.chan.h1.ch.applied, byte s.chan.fan.ch.applied]
        ++ [bit 0 s.chan.h0.ch.summary + bit 1 s.chan.h1.ch.summary + bit 2 s.chan.fan.ch.summary]
        ++ be16 s.chan.fan.speed
        ++ [byte s.bud.last.compCharge, byte s.bud.last.fanCharge, byte s.bud.last.h1Charge, byte s.bud.last.blCharge, byte s.bud.last.h0Charge]
        ++ [byte s.bud.back.ceiling, byte s.bud.back.lReq, byte s.bud.back.lFwd]
        ++ [bit 0 s.bud.back.clamped + bit 1 s.bud.back.resend + bit 2 s.bud.back.unenforced]
        ++ [byte s.sup.deadline.code]
        ++ be16 (if s.sup.deadline ∈ [.bootWindow, .heartbeat] then left s.sup.expiry else 0)
        ++ be16 (s.sup.suspension.elim 0 fun x => left x.expiry)
        ++ [byte s.sup.staleCount]
        ++ [byte ((List.range 13).countP fun n => (s.note.pending &&& s.cfg.enables).getLsbD n)]
        ++ [byte (s.keys.keys.countP fun k => decide (k.state = .down ∨ k.state = .releasePending))]
    ∧ (∀ r : RestartRecord, writeRecord r =
        byte r.cause.code :: byte (r.action.code * 16 + r.phaseLeft.code) :: be32 r.cabinet.toNat ++ be32 r.uptime
          ++ r.board.elim [0x80, 0x00] beInt ++ [byte r.staleCount, byte r.lateCount]
        ∧ (writeRecord r).length = 14)
    ∧ (∀ c : Counters, writeCounters c =
        [c.good, c.check, c.length, c.timeout, c.misrouted, c.overflow, c.stallDiscard].flatMap fun n => [byte (n / 256), byte n])
    ∧ (∀ start count : Byte,
        (7 < start.toNat → exec (.getHistory [start, count]) s = .next (replied 0x44 [0x12] s))
        ∧ (start.toNat ≤ 7 → count = 0 →
            exec (.getHistory [start, count]) s = .next (replied 0x44 ([0x00, byte s.sup.history.length] ++ be32 s.sup.floor) s))
        ∧ (start.toNat ≤ 7 → count ≠ 0 →
            let l := (s.sup.history.reverse.drop start.toNat).take (min 2 count.toNat)
            exec (.getHistory [start, count]) s = .next
              (replied 0x44 ([if 2 < count.toNat then 0x01 else 0x00, byte s.sup.history.length, byte l.length] ++ l.flatMap writeRecord) s)))
    ∧ exec (.getLinkCounters []) s = .next
        (replied 0x46
          (0x00 :: writeCounters { s.link.c.counters with good := min 65535 (s.link.c.counters.good + 1) }
            ++ be16 s.link.c.counters.resetDiscard ++ writeCounters s.link.b.counters) s)
    ∧ exec (.clearCounters []) s = .next
        { replied 0x47 [0x00] s with
          link.c.counters := Counters.zero, link.b.counters := Counters.zero
          pass := s.pass.map fun _ => { hits := 0, special := 0, lastHit := none } }

/-- R4, R95, R133, R141, R146: SET_TIME, SET_DEFAULT_ACTIONS, SET_KEYPAD, and SET_KEYMAP, at which a position whose code becomes 0 goes to rest and
releases a key that was down, with a RELEASE that carries the old code and the key's delivering flag. That several RELEASEs of one command are made in
position order is the model's choice (log entry 36), and so are, in the records of keys put to rest, the pending count put to 0 (log entry 30) and the held
time and repeating flag that a STUCK key keeps (log entry 46), and the reply, the NOTICE test and the deliveries in this order (log entry 6); SET_TIME
keeps the millisecond grid (log entry 25). -/
def Obligations.PlainAndKeymapSettings : Prop :=
  (∀ s : State, TakesCommands s →
    (∀ a b c d : Byte, exec (.setTime [a, b, c, d]) s = .next
      (replied 0x43 [0x00, a, b, c, d]
        { s with clock.cabinet := BitVec.ofNat 32 (a.toNat * 16777216 + b.toNat * 65536 + c.toNat * 256 + d.toNat) }))
    ∧ (∀ d u : Byte,
        (1 < d.toNat ∨ 1 < u.toNat → exec (.setDefaultActions [d, u]) s = .next (replied 0x4C [0x13] s))
        ∧ (d.toNat ≤ 1 → u.toNat ≤ 1 → exec (.setDefaultActions [d, u]) s = .next
            (replied 0x4C [0x00, d, u]
              { s with cfg.defaultDown := if d = 0 then .forward else .drop, cfg.defaultUp := if u = 0 then .forward else .drop })))
    ∧ ∀ tp tr c0 c1 kc s0 s1 d0 d1 p0 p1 : Byte,
        let word (x y : Byte) : Nat := x.toNat * 256 + y.toNat
        let clamp (lo hi n : Nat) : Nat := max lo (min hi n)
        let cold : Int := if word c0 c1 < 32768 then word c0 c1 else (word c0 c1 : Int) - 65536
        let k : KeypadParams :=
          { tPress := clamp 5 100 tp.toNat, tRel := clamp 5 100 tr.toNat, tCold := max (-200) (min 100 cold), kCold := min 10 kc.toNat
            tStuck := if word s0 s1 = 0 then 0 else clamp 5 600 (word s0 s1)
            repeatDelay := clamp 100 2000 (word d0 d1), repeatPeriod := clamp 20 1000 (word p0 p1) }
        let asIs := k = { tPress := tp.toNat, tRel := tr.toNat, tCold := cold, kCold := kc.toNat, tStuck := word s0 s1,
                          repeatDelay := word d0 d1, repeatPeriod := word p0 p1 }
        exec (.setKeypad [tp, tr, c0, c1, kc, s0, s1, d0, d1, p0, p1]) s = .next
          (replied 0x55
            ((if asIs then 0x00 else 0x01) :: byte k.tPress :: byte k.tRel :: beInt k.tCold ++ [byte k.kCold] ++ be16 k.tStuck
              ++ be16 k.repeatDelay ++ be16 k.repeatPeriod)
            { s with cfg.keypad := k }))
  ∧ ((∀ (first : Byte) (codes : List Byte) (r0 r1 d0 d1 : Byte) (s : State), TakesCommands s → 1 ≤ codes.length → codes.length ≤ 16 →
    let run := exec (.setKeymap ([first, byte codes.length, r0, r1, d0, d1] ++ codes)) s
    (48 < first.toNat + codes.length ∨ 47 < first.toNat → run = .next (replied 0x5D [0x12] s))
    ∧ (first.toNat + codes.length ≤ 48 → first.toNat ≤ 47 → s.cfg.keymap.length = 48 → Nexts run fun t =>
        (∀ p < 48, t.cfg.keymap[p]? =
          if first.toNat ≤ p ∧ p < first.toNat + codes.length then
            some { code := codes.getD (p - first.toNat) 0
                   repeats := (r0.toNat * 256 + r1.toNat).testBit (p - first.toNat)
                   deliver := (d0.toNat * 256 + d1.toNat).testBit (p - first.toNat) }
          else s.cfg.keymap[p]?)
        ∧ t.cfg = { s.cfg with keymap := t.cfg.keymap }
        ∧ (s.link.up ++ [upFrame .reply 0xDD [0x00]]) <+: t.link.up
        ∧ t.sup = { s.sup with arm := none } ∧ t.ctl = s.ctl ∧ t.chan = s.chan ∧ t.pins = s.pins
        ∧ t.keys.keys.length = s.keys.keys.length
        ∧ (let released : List (Bool × KeyEvent) := (List.range codes.length).filterMap fun i =>
             let p := first.toNat + i
             (s.keys.keys[p]?).bind fun k => (s.cfg.keymap[p]?).bind fun ent =>
               if ent.code ≠ 0 ∧ codes.getD i 0 = 0 ∧ (k.state = .down ∨ k.state = .releasePending) then
                 some (k.delivering,
                   { kind := .release, position := some p, code := ent.code, chord := none, cold := s.keys.coldRel, stuck := false
                     resync := false, truncated := false, stamp := s.clock.cabinet, codes := [] })
               else none
           t = settle (replied 0x5D [0x00]
             (released.foldl (fun v x => admitEvent x.1 x.2 v) { s with cfg.keymap := t.cfg.keymap, keys.keys := t.keys.keys })))
        ∧ ∀ p k ent, s.keys.keys[p]? = some k → s.cfg.keymap[p]? = some ent →
            t.keys.keys[p]? = some
              (if ent.code ≠ 0 ∧ first.toNat ≤ p ∧ p < first.toNat + codes.length ∧ codes.getD (p - first.toNat) 0 = 0 then
                (if k.state = .pressPending ∨ k.state = .stuck then { k with state := .up, pending := 0 }
                 else if k.state = .up then k
                 else { k with state := .up, pending := 0, held := 0, repeatTime := 0, repeats := 0, delivering := false, repeating := false })
               else k))))

/-- R57, R59, R60, R145: SET_THERMAL and SET_BUDGET put their group in force, clamped where it has ranges, make an allocation with it, and answer
with it; GET_THERMAL reads a group back; the NOTICE test of R150 is made for a CHANNEL_FAULT of the masks and for a BUDGET_LIMITED of the allocation.
That bits of a mask byte beyond those the manual names are dropped with the reply OK is the model's reading
(log entry 20), and so is that the bands, the fan thresholds and the cooling limit are read as signed before the clamp (log entry 21). That Tfull's range
is applied before it is held against Ton (log entry 38), and the reply ahead of the NOTICE (log entry 6), are the model's choices. -/
def Obligations.ThermalAndBudget : Prop :=
  ∀ (p : List Byte) (s : State), TakesCommands s →
    let clamp (lo hi n : Int) : Int := max lo (min hi n)
    let allocated (reply : List Byte) (cls : Byte) (u : State) (t : State) : Prop :=
      t.cfg = u.cfg ∧ GrantsApplied t
      ∧ AnsweredThenDelivered cls reply (allocate s.lines.pwrEn u) t
      ∧ t.bud.last = allocationOf
          { params := u.cfg.budget, reserve := s.lines.pwrEn, dF := t.chan.fan.ch.offered, d1 := t.chan.h1.ch.offered,
            d0 := t.chan.h0.ch.offered, lReq := s.bud.back.lReq, degraded := s.chan.cooling.degraded }
      ∧ (s.link.up ++ [upFrame .reply (cls + 0x80) reply]) <+: t.link.up
      ∧ t.sup = { s.sup with arm := none }
    (p.length = 20 → p.head? = some 0x01 → Nexts (exec (.setThermal p) s) fun t =>
      let on := clamp 40 400 (s16At p 13)
      let full := clamp 48 480 (s16At p 15)
      let g : ThermalChannels :=
        { h0Run := clamp (-120) 200 (s16At p 1), h0Preheat := clamp (-120) 200 (s16At p 3)
          h1Run := clamp (-120) 200 (s16At p 5), h1Preheat := clamp (-120) 200 (s16At p 7)
          pb0 := clamp 4 400 (s16At p 9), pb1 := clamp 4 400 (s16At p 11)
          tOn := on, tFull := if full ≤ on then on + 8 else full
          mask0 := BitVec.ofNat 3 (u8At p 17), mask1 := BitVec.ofNat 3 (u8At p 18), maskF := BitVec.ofNat 3 (u8At p 19 % 4) }
      let summary0 : Bool := decide (s.chan.h0.ch.flags &&& g.mask0 ≠ 0)
      let summary1 : Bool := decide (s.chan.h1.ch.flags &&& g.mask1 ≠ 0)
      let summaryF : Bool := decide (s.chan.fan.ch.flags &&& g.maskF &&& 1 ≠ 0)
      let rose : Bool :=
        (!s.chan.h0.ch.summary && summary0) || (!s.chan.h1.ch.summary && summary1) || (!s.chan.fan.ch.summary && summaryF)
      let u : State :=
        { s with
          cfg := { s.cfg with channels := g }
          chan.h0.ch.summary := summary0, chan.h1.ch.summary := summary1, chan.fan.ch.summary := summaryF
          note.pending := if rose then s.note.pending ||| 2#13 else s.note.pending }
      allocated ((if g = readChannels p then 0x00 else 0x01) :: writeChannels g) 0x50 u t
      ∧ t = settle (allocate s.lines.pwrEn (sendNotice (replied 0x50 ((if g = readChannels p then 0x00 else 0x01) :: writeChannels g) u)))
      ∧ t.chan.h0.ch.summary = decide (s.chan.h0.ch.flags &&& g.mask0 ≠ 0)
      ∧ t.chan.h1.ch.summary = decide (s.chan.h1.ch.flags &&& g.mask1 ≠ 0)
      ∧ t.chan.fan.ch.summary = decide (s.chan.fan.ch.flags &&& g.maskF &&& 1 ≠ 0))
    ∧ (p.length = 20 → p.head? = some 0x02 → u8At p 11 ≤ 1 → Nexts (exec (.setThermal p) s) fun t =>
      let policy : WarmUpPolicy := if u8At p 11 = 0 then .bootAnyway else .keepHeating
      let g : ThermalSensing :=
        { trimAir := clamp (-32) 31 (s8At p 1), trimDisplay := clamp (-32) 31 (s8At p 2), trimBoard := clamp (-32) 31 (s8At p 3)
          gBoard := clamp (-200) 100 (s16At p 4), gDisp := clamp (-200) 100 (s16At p 6)
          tSoak := max 10 (min 600 (u16At p 8)), warmUpLimit := max 1 (min 240 (u8At p 10)), policy := policy
          tAbsMin := clamp (-220) 0 (s16At p 12), tWarn := clamp 120 480 (s16At p 14), tTrip := clamp 200 480 (s16At p 16)
          deltaMax := clamp 40 200 (s16At p 18) }
      allocated ((if g = readSensing p policy then 0x00 else 0x01) :: writeSensing g) 0x50 { s with cfg.sensing := g } t)
    ∧ (p.length = 20 → p.head? = some 0x02 → 1 < u8At p 11 → exec (.setThermal p) s = .next (replied 0x50 [0x13] s))
    ∧ (p.length = 20 → p.head? ≠ some 0x01 → p.head? ≠ some 0x02 → exec (.setThermal p) s = .next (replied 0x50 [0x12] s))
    ∧ (p.length = 8 → Nexts (exec (.setBudget p) s) fun t =>
      allocated (0x00 :: p) 0x52
        { s with cfg.budget :=
          { bTot := u8At p 0, rc := u8At p 1, p0 := u8At p 2, p1 := u8At p 3, pFan := u8At p 4, pBl := u8At p 5, lInit := u8At p 6,
            lCap := u8At p 7 } } t)
    ∧ exec (.getThermal [0x01]) s = .next (replied 0x51 (0x00 :: writeChannels s.cfg.channels) s)
    ∧ exec (.getThermal [0x02]) s = .next (replied 0x51 (0x00 :: writeSensing s.cfg.sensing) s)
    ∧ ∀ g : Byte, g ≠ 0x01 → g ≠ 0x02 → exec (.getThermal [g]) s = .next (replied 0x51 [0x12] s)

/-- R102 to R104, R106, R71: SET_PASS_ENTRY and SET_ANSWER judged in their order and replacing the entry or record whole, and the two commands that
read them back (the stamp bytes of an entry never hit are free, log entry 9). That a flag byte which the definition does not use is held as set or clear, and returned
as 00h or 01h, is the model's choice (log entry 35). -/
def Obligations.PassTableCommands : Prop :=
  ((∀ (i st dir act any node cv cm sp sel ph tok fw lv an : Byte) (s : State), TakesCommands s →
    let run := exec (.setPassEntry [i, st, dir, act, any, node, cv, cm, sp, sel, ph, tok, fw, lv, an]) s
    let answers (code : Byte) : Prop := run = .next (replied 0x48 [code] s)
    let d : PassDef :=
      { active := st == 1, direction := if dir = 0 then .down else .up
        action := if act = 0 then .forward else if act = 1 then .drop else if act = 2 then .heartbeat else if act = 3 then .clampLevel else .answer
        nodeAny := any != 0, node := node, clsValue := cv, clsMask := cm, selectorPresent := sp != 0, selector := sel, phases := ph,
        tokenOffset := tok, forward := fw != 0, levelOffset := lv, answerIndex := an }
    let clampAt (j : Nat) : Bool := (s.cfg.pass[j]?).any fun e => e.active && decide (e.action = .clampLevel)
    if 31 < i.toNat then answers 0x12
    else if st = 1 ∧ act = 4 ∧ 7 < an.toNat then answers 0x12
    else if 1 < st.toNat ∨ 1 < dir.toNat ∨ 4 < act.toNat then answers 0x13
    else if st = 1 ∧ (act = 2 ∨ act = 3) ∧ dir = 1 then answers 0x13
    else if st = 1 ∧ act = 2 ∧ 31 < tok.toNat ∧ tok ≠ 0xFF then answers 0x13
    else if st = 1 ∧ act = 3 ∧ 31 < lv.toNat then answers 0x13
    else if st = 1 ∧ act = 3 ∧ ∃ j < s.cfg.pass.length, j ≠ i.toNat ∧ clampAt j = true then answers 0x16
    else run = .next
      (replied 0x48 [0x00]
        { s with
          cfg.pass := s.cfg.pass.set i.toNat d
          pass := s.pass.set i.toNat { hits := 0, special := 0, lastHit := none }
          sup.entryTokens := s.sup.entryTokens.set i.toNat none
          bud.back.template := if clampAt i.toNat then none else s.bud.back.template
          bud.back.levelOffset := if clampAt i.toNat then none else s.bud.back.levelOffset }))
  ∧ ∀ (i : Byte) (s : State), TakesCommands s →
      (31 < i.toNat → exec (.getPassEntry [i]) s = .next (replied 0x49 [0x12] s))
      ∧ ∀ d c, i.toNat ≤ 31 → s.cfg.pass[i.toNat]? = some d → s.pass[i.toNat]? = some c →
          exec (.getPassEntry [i]) s = .next
            (replied 0x49
              (0x00 :: i :: writePassDef d ++ be16 c.hits ++ be16 c.special
                ++ c.lastHit.elim (0x00 :: be32 Config.absentLastHit.toNat) (fun stamp => 0x01 :: be32 stamp.toNat)) s))
  ∧ ((∀ (i cls po bo so : Byte) (template : List Byte) (s : State), TakesCommands s → template.length ≤ 16 →
    let run := exec (.setAnswer ([i, cls, po, bo, so, byte template.length] ++ template)) s
    let a : Answer := { cls := cls, phaseOffset := po, boardOffset := bo, soakOffset := so, template := template }
    let covers (o : Byte) (w n : Nat) : Prop := o ≠ 0xFF ∧ o.toNat ≤ n ∧ n < o.toNat + w
    let inside (o : Byte) (w : Nat) : Prop := o = 0xFF ∨ o.toNat + w ≤ template.length
    let apart := ∀ n < 256 + 2, ¬ (covers po 1 n ∧ covers bo 2 n) ∧ ¬ (covers po 1 n ∧ covers so 2 n) ∧ ¬ (covers bo 2 n ∧ covers so 2 n)
    if 7 < i.toNat then run = .next (replied 0x4A [0x12] s)
    else if inside po 1 ∧ inside bo 2 ∧ inside so 2 ∧ apart then
      run = .next (replied 0x4A [0x00] { s with cfg.answers := s.cfg.answers.set i.toNat a })
    else run = .next (replied 0x4A [0x13] s))
  ∧ ∀ (i : Byte) (s : State), TakesCommands s →
      (7 < i.toNat → exec (.getAnswer [i]) s = .next (replied 0x4B [0x12] s))
      ∧ ∀ a : Answer, i.toNat ≤ 7 → s.cfg.answers[i.toNat]? = some a →
          exec (.getAnswer [i]) s = .next
            (replied 0x4B ([0x00, i, a.cls, a.phaseOffset, a.boardOffset, a.soakOffset, byte a.template.length] ++ a.template) s))

/-- R149 to R151: GET_CAUSE takes the highest-priority eligible cause and clears the notice-outstanding flag, SET_CAUSE_ENABLES replaces the enables,
and after the reply of either a NOTICE is queued, and the flag set, exactly when a cause is eligible in RUN, none is outstanding, and the upstream
queue has room; so at NOTICE_SEND. That enable bits beyond the thirteen are dropped with the reply OK is the
model's reading (log entry 20), and that the reply of SET_CAUSE_ENABLES stands ahead of the NOTICE it makes possible is its choice (log entry 6; for
GET_CAUSE R151 says so). -/
def Obligations.CausesAndNotices : Prop :=
  ∀ s : State,
    let eligibleBits (u : State) : List Nat := (List.range 13).filter fun n => (u.note.pending &&& u.cfg.enables).getLsbD n
    let noticed (u : State) : State :=
      if u.ctl.phase = .run ∧ eligibleBits u ≠ [] ∧ u.note.outstanding = false ∧ u.link.up.length ≤ 10
        ∧ u.link.up.all (fun f => decide (f.rank ≠ .notice)) = true then
        { u with
          link.up := u.link.up ++ [upFrame .notice 0xE0 [byte ((eligibleBits u).headD 0 + 1), byte (eligibleBits u).length]]
          link.c.stallFrom := stallFromWhenWaiting u
          note.outstanding := true }
      else u
    let l := eligibleBits s
    (TakesCommands s →
      (l = [] → exec (.getCause []) s = .next (noticed (replied 0x41 [0x00, 0x00, 0x00] { s with note.outstanding := false })))
      ∧ ∀ n rest, l = n :: rest →
          exec (.getCause []) s = .next
            (noticed (replied 0x41 [0x00, byte (n + 1), byte rest.length]
              { s with note.pending := s.note.pending &&& ~~~(BitVec.twoPow 13 n), note.outstanding := false })))
    ∧ (TakesCommands s → ∀ x y : Byte,
        let e := BitVec.ofNat 13 (x.toNat * 256 + y.toNat)
        exec (.setCauseEnables [x, y]) s = .next (noticed (replied 0x42 (0x00 :: be16 e.toNat) { s with cfg.enables := e })))
    ∧ (s.powered = true → exec .noticeSend s = .next (noticed s))

/-- R48, R52: GET_CHANNEL_DIAG reports each channel and clears the flags whose condition is gone; CLEAR_CHANNEL_LOCK empties a channel's trips and
lets a locked channel go, to OFF also under HEAT_INH# by the model's reading (log entry 27). The bits of the flags and conditions bytes that R160 does
not name are 0, and a summary byte is 00h for clear and 01h for set, by its choice (log entries 48 and 49). -/
def Obligations.ChannelCommands : Prop :=
  ∀ s : State, TakesCommands s →
    (Nexts (exec (.getChannelDiag []) s) fun t =>
      let report (c : Channel) : List Byte :=
        [byte c.state.code, byte c.applied, byte c.flags.toNat, byte c.conds.toNat, byte c.trips.length, if c.summary then 1 else 0]
      let kept (mask : BitVec 3) (c : Channel) : Channel := { c with flags := c.flags &&& c.conds, summary := decide (c.flags &&& c.conds &&& mask ≠ 0) }
      let u := { s with
        chan.h0.ch := kept s.cfg.channels.mask0 s.chan.h0.ch
        chan.h1.ch := kept s.cfg.channels.mask1 s.chan.h1.ch
        chan.fan.ch := kept (s.cfg.channels.maskF &&& 1) s.chan.fan.ch }
      let rose (c d : Channel) : Bool := !c.summary && d.summary
      t = replied 0x53
        (0x00 :: report s.chan.h0.ch ++ report s.chan.h1.ch ++ report s.chan.fan.ch ++ be16 s.chan.fan.speed
          ++ [if s.chan.fan.running then 1 else 0])
        { u with note.pending :=
            if rose s.chan.h0.ch u.chan.h0.ch || rose s.chan.h1.ch u.chan.h1.ch || rose s.chan.fan.ch u.chan.fan.ch then s.note.pending ||| 2#13
            else s.note.pending })
    ∧ (∀ i : Byte, 2 < i.toNat → exec (.clearChannelLock [i]) s = .next (replied 0x54 [0x12] s))
    ∧ ∀ (i : Byte) (c : ChannelId), (i, c) ∈ [(0, .h0), (1, .h1), (2, .fan)] → Nexts (exec (.clearChannelLock [i]) s) fun t =>
        let x := channelOf c s
        let y := channelOf c t
        y.trips = [] ∧ y.conds = x.conds &&& ~~~1#3 ∧ y.flags = x.flags ∧ y.summary = x.summary
        ∧ (x.state = .lockedOff → y.state = .off ∧ y.applied = 0) ∧ (x.state ≠ .lockedOff → y.state = x.state ∧ y.applied = x.applied)
        ∧ t = replied 0x54 [0x00] { s with chan.h0 := t.chan.h0, chan.h1 := t.chan.h1, chan.fan := t.chan.fan }
        ∧ (∀ o : ChannelId, o ≠ c → channelOf o t = { channelOf o s with on := (channelOf o t).on, overFrom := (channelOf o t).overFrom })
        ∧ (let unlocks := x.state = .lockedOff
           let cleared : State :=
             setChannel c
               { x with
                 trips := [], conds := x.conds &&& ~~~1#3
                 state := if unlocks then .off else x.state, applied := if unlocks then 0 else x.applied }
               { s with
                 chan.h0.base := if unlocks ∧ c = .h0 then 0 else s.chan.h0.base
                 chan.h1.base := if unlocks ∧ c = .h1 then 0 else s.chan.h1.base }
           t = replied 0x54 [0x00] (cleared.switchedAs t))

/-- R152 to R155: STORE_SETTINGS captures the settings in force and ends done or failed; an image is good by its format number, its length and its
check, stored high byte first (the values of the two words and the layout of the setting bytes, 871 of them and three for each keymap entry, are the model's, log entry 8); a power-on
reset loads a good image, else the factory defaults, and leaves the image area as it is while no store is under way; a store cut short leaves no good
image. That the capture is empty after the programming is the
model's choice (log entry 37). -/
def Obligations.StoreAndLoad : Prop :=
  ((∀ i : Image, goodImage i = true ↔
      i.format = Config.imageFormat ∧ i.length = Config.imageLength
      ∧ i.checkFirst.toNat * 256 + i.checkSecond.toNat
          = (crc16 (be16 i.format.toNat ++ be16 i.length.toNat ++ settingsBytes i.settings)).toNat)
    ∧ (∀ c : Settings, goodSettings (some (imageOf c)) = some c)
    ∧ ∀ c : Settings, c.inRange = true → (settingsBytes c).length = 871)
  ∧ (∀ (rateHigh : Bool) (s : State),
    (∀ i : Image, s.store.programming = none → s.store.area = some i →
      Nexts (exec (.powerOnReset rateHigh) s) fun t =>
        t.cfg = (if goodImage i then i.settings else Settings.factory)
        ∧ t.note.pending = (if goodImage i then 0 else 0x1000)
        ∧ t.store = { area := some i, shadow := if goodImage i then some i.settings else none, programming := none, capture := none })
    ∧ (s.store.programming = none → s.store.area = none →
        Nexts (exec (.powerOnReset rateHigh) s) fun t =>
          t.cfg = Settings.factory ∧ t.note.pending = 0x1000
          ∧ t.store = { area := none, shadow := none, programming := none, capture := none })
    ∧ (s.powered = true → s.store.programming = none →
        Nexts (exec .brownOut s) fun u => Nexts (exec (.powerOnReset rateHigh) u) fun t => t.store.area = s.store.area)
    ∧ (s.store.programming.isSome = true →
        Nexts (exec (.powerOnReset rateHigh) s) fun t =>
          t.cfg = Settings.factory ∧ t.note.pending = 0x1000
          ∧ t.store = { area := none, shadow := none, programming := none, capture := none })
    ∧ (s.powered = true → s.store.programming.isSome = true →
        Nexts (exec .brownOut s) fun u => Nexts (exec (.powerOnReset rateHigh) u) fun t =>
          t.cfg = Settings.factory ∧ t.note.pending = 0x1000 ∧ t.store.programming = none))
  ∧ (∀ s : State,
    (TakesCommands s → s.store.programming.isSome = true → exec (.storeSettings []) s = .next (replied 0x5F [0x10] s))
    ∧ (TakesCommands s → s.store.programming = none → exec (.storeSettings []) s = .next
        (replied 0x5F [0x02] { s with store.programming := some s.clock.now, store.capture := some s.cfg }))
    ∧ ∀ (restore : Bool) (at_ : Nat) (c : Settings), s.powered = true → s.store.programming = some at_ → s.store.capture = some c →
        (Nexts (exec (.programmingEnd true restore) s) fun t =>
          goodSettings t.store.area = some c
          ∧ SameButDeliveries
              { s with
                store := { area := t.store.area, shadow := some c, programming := none, capture := none }
                note.pending := s.note.pending ||| 1024#13 } t)
        ∧ (Nexts (exec (.programmingEnd false restore) s) fun t =>
            (restore = true → ∀ old, s.store.shadow = some old → goodSettings t.store.area = some old ∧ t.store.shadow = some old)
            ∧ (restore = false ∨ s.store.shadow = none → t.store.area = none ∧ t.store.shadow = none)
            ∧ SameButDeliveries
                { s with
                  store := { area := t.store.area, shadow := t.store.shadow, programming := none, capture := none }
                  note.pending := s.note.pending ||| 2048#13 } t))

/-! ## The keypad -/

/-- R126: three closed corners make all four positions of a rectangle ambiguous, and a position is ambiguous only through such a rectangle; fewer
than three closed keys hold none. -/
def Obligations.GhostTest : Prop :=
  (∀ (m : Matrix) (a b s t : Nat), a < 6 → b < 6 → s < 8 → t < 8 → a ≠ b → s ≠ t →
    3 ≤ [a * 8 + s, a * 8 + t, b * 8 + s, b * 8 + t].countP (fun p => m.getLsbD p) →
    ∀ p ∈ [a * 8 + s, a * 8 + t, b * 8 + s, b * 8 + t], isAmbiguous m p = true)
  ∧ (∀ (m : Matrix) (p : Nat), p < 48 → isAmbiguous m p = true →
      ∃ b < 6, ∃ t < 8, b ≠ p / 8 ∧ t ≠ p % 8
        ∧ 3 ≤ [p, p / 8 * 8 + t, b * 8 + p % 8, b * 8 + t].countP (fun q => m.getLsbD q))
  ∧ ∀ (m : Matrix) (p : Nat), p < 48 → (List.range 48).countP (fun q => m.getLsbD q) < 3 → isAmbiguous m p = false

/-- R125 to R132, R135, R136: what one scan pass makes of each key, by its debounce state, with the effective times of the pass, and of each chord; the
events it queues, those of the keys in position order and then those of the chords; and the firings it hands on. That the stuck judgement comes
before the raw value acts in a pass is the model's choice (log entry 13), and so are the counts put to 0 as a state is left (log entry 30), the held time
and the repeating flag kept through STUCK (log entry 46), the repeat time left as it is at the pass that returns a key to DOWN (log entry 47), a SPENT chord's hold elapsed at the hold time itself (log entry 44), and the order of the follow-ups in `settle` (log entry 6); that
every CHORD event is offered before any firing is handed on is its reading (log entry 18), and how many of the firings that wait are taken at once is
free (log entry 32). -/
def Obligations.ScanPassMovesTheKeys : Prop :=
  ∀ (m : Matrix) (s : State), s.powered = true → Nexts (exec (.scanPass m) s) fun t =>
    let q := s.cfg.keypad
    let ext : Option Nat := s.sens.effDisplay.map fun T => q.kCold * (max 0 ((q.tCold - T).tdiv 4)).toNat
    let eff (base : Nat) : Nat := ext.elim 120 fun e => min 120 (base + e)
    let stuckAt (held : Nat) : Prop := q.tStuck ≠ 0 ∧ q.tStuck * 1000 ≤ held
    let up (k : Key) : Key :=
      { k with state := .up, pending := 0, held := 0, repeatTime := 0, repeats := 0, delivering := false, repeating := false }
    let next (ent : KeymapEntry) (closed : Bool) (k : Key) : Key :=
      if k.state = .up then (if closed then { k with state := .pressPending, pending := 0 } else k)
      else if k.state = .pressPending then
        (if closed = false then { k with state := .up, pending := 0 }
         else if eff q.tPress ≤ k.pending + 5 then
          { k with state := .down, pending := 0, held := 0, repeatTime := 0, repeats := 0, delivering := ent.deliver, repeating := ent.repeats }
         else { k with pending := k.pending + 5 })
      else if k.state = .stuck then
        (if closed then { k with pending := 0 }
         else if eff q.tRel ≤ k.pending + 5 then { k with state := .up, pending := 0 } else { k with pending := k.pending + 5 })
      else if stuckAt (min 600000 (k.held + 5)) then
        { k with state := .stuck, pending := 0, held := min 600000 (k.held + 5), repeatTime := 0, repeats := 0, delivering := false }
      else if k.state = .releasePending then
        (if closed then { k with state := .down, pending := 0, held := min 600000 (k.held + 5) }
         else if eff q.tRel ≤ k.pending + 5 then up { k with held := min 600000 (k.held + 5) }
         else { k with pending := k.pending + 5, held := min 600000 (k.held + 5) })
      else if closed = false then { k with state := .releasePending, pending := 0, held := min 600000 (k.held + 5) }
      else if k.repeating = false then { k with held := min 600000 (k.held + 5) }
      else if (if k.repeats = 0 then q.repeatDelay else q.repeatPeriod) ≤ k.repeatTime + 5 then
        { k with held := min 600000 (k.held + 5), repeatTime := 0, repeats := k.repeats + 1 }
      else { k with held := min 600000 (k.held + 5), repeatTime := k.repeatTime + 5 }
    (∀ p k ent, s.keys.keys[p]? = some k → s.cfg.keymap[p]? = some ent →
      let k' := { k with raw := m.getLsbD p, ambiguous := isAmbiguous m p }
      t.keys.keys[p]? = some
        (if isAmbiguous m p then k' else if ent.code = 0 then { k' with state := .up, pending := 0 } else next ent (m.getLsbD p) k'))
    ∧ t.keys.keys.length = s.keys.keys.length
    ∧ t.keys.pressEff = eff q.tPress ∧ t.keys.relEff = eff q.tRel
    ∧ t.keys.coldPress = decide (ext ≠ some 0) ∧ t.keys.coldRel = decide (ext ≠ some 0)
    ∧ t.keys.scanAt = s.clock.now ∧ t.pins = { s.pins with matrix := m } ∧ t.cfg = s.cfg ∧ t.sens = s.sens ∧ t.pass = s.pass ∧ t.store = s.store
    ∧ (let made (ent : KeymapEntry) (closed : Bool) (k : Key) : Option (Bool × KeyKind × Bool) :=
         if k.state = .pressPending then
           (if closed = true ∧ eff q.tPress ≤ k.pending + 5 then some (ent.deliver, .press, false) else none)
         else if k.state = .up ∨ k.state = .stuck then none
         else if stuckAt (min 600000 (k.held + 5)) then some (k.delivering, .release, true)
         else if k.state = .releasePending then
           (if closed = false ∧ eff q.tRel ≤ k.pending + 5 then some (k.delivering, .release, false) else none)
         else if closed = true ∧ k.repeating = true ∧ (if k.repeats = 0 then q.repeatDelay else q.repeatPeriod) ≤ k.repeatTime + 5 then
           some (k.delivering, .repeated, false)
         else none
       let blank : KeyEvent :=
         { kind := .chord, position := none, code := 0, chord := none, cold := decide (ext ≠ some 0), stuck := false, resync := false
           truncated := false, stamp := s.clock.cabinet, codes := [] }
       let ofKeys : List (Bool × KeyEvent) := (List.range s.keys.keys.length).filterMap fun p =>
         (s.keys.keys[p]?).bind fun k => (s.cfg.keymap[p]?).bind fun ent =>
           if isAmbiguous m p = true ∨ ent.code = 0 then none
           else (made ent (m.getLsbD p) k).map fun x =>
             (x.1, { blank with kind := x.2.1, position := some p, code := ent.code, stuck := x.2.2 })
       let chord (i : Nat) : Option (ChordDef × (ChordRun × Bool)) :=
         (s.cfg.chords[i]?).bind fun d => (s.keys.chords[i]?).map fun c =>
           (d, stepChord d (isHeld t.keys.keys d) (inPhaseSet d.phases s.ctl.phase)
             (d.members.all fun p => (t.keys.keys[p]?).any fun k => decide (k.state = .up)) c)
       let fired := (List.range s.keys.chords.length).filter fun i => (chord i).any fun x => x.2.2
       let ofChords : List (Bool × KeyEvent) := fired.map fun i => (false, { blank with chord := some i })
       (∀ i x, chord i = some x → t.keys.chords[i]? = some x.2.1)
       ∧ t.keys.chords.length = s.keys.chords.length
       ∧ t = settle (handFirings (fired.filterMap fun i => (chord i).map fun x => x.1.action)
           ((ofKeys ++ ofChords).foldl (fun v x => admitEvent x.1 x.2 v)
             { s with
               pins.matrix := m
               keys := { t.keys with queue := s.keys.queue, loss := s.keys.loss } })))

/-- R127, R128, R130, R131: the moment a key's press, release, stuck judgement, stuck release or repeat is made, as a row of its own (log entry
5): the key's record, and its event offered to the queue, cold where the extension then in force is not 0 (R129). The counts put to 0 as a state is left
(log entry 30), the held time and the repeating flag kept through STUCK (log entry 46), and the order of the follow-ups in `settle` (log entry 6) are the model's choices too. -/
def Obligations.KeyMoments : Prop :=
  ∀ (p : Nat) (k : Key) (ent : KeymapEntry) (s : State), s.powered = true → s.keys.keys[p]? = some k → s.cfg.keymap[p]? = some ent →
    k.ambiguous = false →
    let ext : Option Nat := s.sens.effDisplay.map fun T => s.cfg.keypad.kCold * (max 0 ((s.cfg.keypad.tCold - T).tdiv 4)).toNat
    let moved (k' : Key) (e : Option (Bool × KeyKind × Bool)) (t : State) : Prop :=
      let u := { s with keys.keys := s.keys.keys.set p k' }
      t = settle (e.elim u fun x => admitEvent x.1
        { kind := x.2.1, position := some p, code := ent.code, chord := none
          cold := decide (ext ≠ some 0)
          stuck := x.2.2, resync := false, truncated := false, stamp := s.clock.cabinet, codes := [] } u)
    (k.state = .pressPending → ent.code ≠ 0 → pressEff s ≤ k.pending + 5 → Nexts (exec (.press p) s)
      (moved { k with state := .down, pending := 0, held := 0, repeatTime := 0, repeats := 0, delivering := ent.deliver, repeating := ent.repeats }
        (some (ent.deliver, .press, false))))
    ∧ (k.state = .releasePending → relEff s ≤ k.pending + 5 → Nexts (exec (.release p) s)
        (moved { k with state := .up, pending := 0, held := 0, repeatTime := 0, repeats := 0, delivering := false, repeating := false }
          (some (k.delivering, .release, false))))
    ∧ ((k.state = .down ∨ k.state = .releasePending) → s.cfg.keypad.tStuck ≠ 0 → s.cfg.keypad.tStuck * 1000 ≤ min 600000 (k.held + 5) →
        Nexts (exec (.stuck p) s)
          (moved { k with state := .stuck, pending := 0, held := min 600000 (k.held + 5), repeatTime := 0, repeats := 0, delivering := false }
            (some (k.delivering, .release, true))))
    ∧ (k.state = .stuck → relEff s ≤ k.pending + 5 → Nexts (exec (.stuckClear p) s) (moved { k with state := .up, pending := 0 } none))
    ∧ (k.state = .down → k.repeating = true → (if k.repeats = 0 then s.cfg.keypad.repeatDelay else s.cfg.keypad.repeatPeriod) ≤ k.repeatTime + 5 →
        Nexts (exec (.keyRepeat p) s)
          (moved { k with held := min 600000 (k.held + 5), repeatTime := 0, repeats := k.repeats + 1 } (some (k.delivering, .repeated, false))))

/-- R134 to R136: a chord is held while exactly its members are down; held in a phase of its set it runs to its hold time and fires once; SET_CHORD
writes one and starts it ARMED or SPENT. CHORD_FIRE as a row of its own is the model's choice (log entry 5), its CHORD event offered before the action
is handed on is its reading (log entry 18), and how many of the firings that wait are taken at once is free (log entry 32). That the hold time of a chord without members is clamped as any other
(log entry 35), that a SPENT chord's hold elapsed is the hold time itself (log entry 44), and the order of the follow-ups in `settle` (log entry 6)
are the model's choices too. -/
def Obligations.Chords : Prop :=
  (∀ (keys : List Key) (d : ChordDef), (∀ p ∈ d.members, p < keys.length) →
    (isHeld keys d = true ↔ ∀ p < keys.length, (p ∈ d.members ↔ (keys[p]?).any Key.isDown = true)))
  ∧ (∀ (d : ChordDef) (held inSet rested : Bool) (c : ChordRun),
      let armed : ChordRun := { state := .armed, elapsed := 0 }
      stepChord d held inSet rested c =
        (if d.count = 0 then (c, false)
         else if c.state = .spent then (if rested then armed else c, false)
         else if held = false ∨ inSet = false then (if c.state = .armed then c else armed, false)
         else if c.state = .armed then ({ state := .holding, elapsed := 5 }, false)
         else if c.elapsed + 5 < d.holdMs then ({ state := .holding, elapsed := c.elapsed + 5 }, false)
         else ({ state := .spent, elapsed := d.holdMs }, true)))
  ∧ (∀ (i : Nat) (d : ChordDef) (c : ChordRun) (s : State), s.powered = true → s.cfg.chords[i]? = some d → s.keys.chords[i]? = some c →
      c.state = .holding → d.count ≠ 0 → d.holdMs ≤ c.elapsed + 5 → isHeld s.keys.keys d = true → inPhaseSet d.phases s.ctl.phase = true →
      Nexts (exec (.chordFire i) s) fun t =>
        let ext : Option Nat := s.sens.effDisplay.map fun T => s.cfg.keypad.kCold * (max 0 ((s.cfg.keypad.tCold - T).tdiv 4)).toNat
        let u := { s with keys.chords := s.keys.chords.set i { state := .spent, elapsed := d.holdMs } }
        let e : KeyEvent :=
          { kind := .chord, position := none, code := 0, chord := some i, cold := decide (ext ≠ some 0), stuck := false, resync := false,
            truncated := false, stamp := s.clock.cabinet, codes := [] }
        t = settle (handFirings [d.action] (admitEvent false e u)))
  ∧ (∀ s : State,
      handFirings [] s = s
      ∧ ∀ a l, handFirings (a :: l) s =
          takeFirings (Config.firingsTaken s.draw) { s with ctl.firings := s.ctl.firings ++ a :: l, draw := s.draw + 1 })
  ∧ ∀ (i n a b c h0 h1 act ph : Byte) (s : State), TakesCommands s →
      let run := exec (.setChord [i, n, a, b, c, h0, h1, act, ph]) s
      let members := ([a, b, c].take n.toNat).map BitVec.toNat
      let hold := h0.toNat * 256 + h1.toNat
      let hold' := max 500 (min 10000 hold)
      if 3 < i.toNat then run = .next (replied 0x5E [0x12] s)
      else if 3 < act.toNat ∨ ¬ (n.toNat = 0 ∨ n.toNat = 2 ∨ n.toNat = 3) ∨ ¬ members.Nodup ∨ (∃ m ∈ members, 47 < m) then
        run = .next (replied 0x5E [0x13] s)
      else run = .next
        (replied 0x5E ([if hold' = hold then 0x00 else 0x01, i, n, a, b, c] ++ be16 hold' ++ [act, ph])
          { s with
            cfg.chords := s.cfg.chords.set i.toNat
              { count := n.toNat, m0 := a, m1 := b, m2 := c, holdMs := hold', phases := ph
                action := if act = 0 then .requestRestart else if act = 1 then .skipWarmup else if act = 2 then .clearLockout else .report }
            keys.chords := s.keys.chords.set i.toNat
              { state := if members.all (fun m => (s.keys.keys[m]?).any fun k => decide (k.state = .up)) then .armed else .spent, elapsed := 0 } })

/-- R137 to R140, R162: admission to the key event queue by the first case that applies, the SNAPSHOT and the payload of a KEY frame, and the delivery
of the queue's head with the resync test. An event ends with the NOTICE test and then the deliveries there is room for, in this order by the model's
choice (log entry 6), as is the 0 in the flag bits of the payload that R162 does not name (log entry 48). -/
def Obligations.KeyEventQueue : Prop :=
  (∀ (delivering : Bool) (e : KeyEvent) (s : State),
    let change := e.kind = .press ∨ e.kind = .release ∨ e.kind = .repeated
    let q := s.keys.queue
    admitEvent delivering e s =
      (if s.ctl.phase ≠ .run then s
       else if change ∧ (delivering = false ∨ s.keys.loss = true) then s
       else if e.kind = .repeated ∧ (12 ≤ q.length ∨ ∃ x ∈ q, x.kind = .repeated ∧ x.position = e.position) then s
       else if 16 ≤ q.length then { s with keys.loss := true, note.pending := s.note.pending ||| 64#13 }
       else { s with keys.queue := q ++ [e] }))
  ∧ ((∀ (resync : Bool) (s : State), snapshotEvent resync s =
        { kind := .snapshot, position := none, code := 0, chord := none, cold := s.keys.coldPress, stuck := false, resync := resync
          truncated := decide (24 < (heldCodes s).length), stamp := s.clock.cabinet, codes := (heldCodes s).take 24 })
    ∧ (∀ e : KeyEvent,
        let bit (n : Nat) (b : Bool) : Byte := if b then BitVec.ofNat 8 (2 ^ n) else 0
        keyPayload e =
          [byte e.kind.code,
           (if e.kind = .chord then byte (e.chord.getD 0) else if e.kind = .snapshot then 0xFF else byte (e.position.getD 0)),
           e.code, bit 0 e.cold + bit 1 e.stuck + bit 2 e.resync + bit 3 e.truncated] ++ be32 e.stamp.toNat ++ e.codes)
    ∧ ∀ s : State, s.powered = true →
        Nexts (exec .noticeSend s) fun t0 => Nexts (exec .keyDelivery t0) fun t1 => Nexts (exec .keyDelivery t1) fun t2 =>
          Nexts (exec .keyDelivery t2) fun t3 => Nexts (exec .keyDelivery t3) fun t4 => settle s = t4)
  ∧ ∀ (e : KeyEvent) (rest : List KeyEvent) (s : State), s.powered = true → s.keys.queue = e :: rest →
      let due := s.ctl.phase = .run ∧ s.link.up.countP (fun f => decide (f.rank = .key)) < 4 ∧ s.link.up.length ≤ 10
      let resync := s.keys.loss = true ∧ rest.length ≤ 8
      (due → exec .keyDelivery s = .next
        { s with
          link.up := s.link.up ++ [upFrame .key 0xE1 (keyPayload e)]
          link.c.stallFrom := stallFromWhenWaiting s
          keys.queue := if resync then rest ++ [snapshotEvent true s] else rest
          keys.loss := if resync then false else s.keys.loss })
      ∧ (¬ due → exec .keyDelivery s = .next s)

/-! ## Rows that are not due, and invariants -/

/-- Rows that name the running out of a timer, a dwell, a debounce time or a hold time have no effect while it does not run or has not run its span (R2).
That such a row may be commanded then, and does nothing, is the model's choice (log entries 10, and 5 for the rows that name a moment within a sample or
a scan pass). SENSOR_SAMPLE, SCAN_PASS, BUDGET_TIMER_EXPIRY, TRANSMIT_COMPLETE and PROGRAMMING_END act whenever commanded (log entries 10 and 7), the last
two while a frame is sent and a programming runs. -/
def Obligations.RowsNotDueChangeNothing : Prop :=
  ∀ s : State, s.powered = true →
    (s.ctl.phase ≠ .preheat ∨ s.ctl.warmUp = .stopped ∨ s.ctl.warmUp = .expired → exec .warmUpLimitExpiry s = .next s)
    ∧ (∀ e : Nat, s.ctl.warmUp = .running e → s.clock.now < e → exec .warmUpLimitExpiry s = .next s)
    ∧ (¬ (s.ctl.phase = .powerOn ∧ HasRun s.ctl.stability 100000 s) → exec .pwrgoodStabilityComplete s = .next s)
    ∧ (¬ (s.ctl.phase = .powerOn ∧ HasRun s.ctl.wait 2000000 s) → exec .pwrgoodWaitExpiry s = .next s)
    ∧ (¬ (s.ctl.phase ∈ [.boot, .run, .restart] ∧ HasRun s.ctl.supplyLoss 50000 s) → exec .supplyLossFilterExpiry s = .next s)
    ∧ (¬ (s.ctl.phase = .restart ∧ HasRun s.ctl.resetPulse 200000 s) → exec .resetPulseEnd s = .next s)
    ∧ (¬ (s.ctl.phase = .powerCycle ∧ HasRun s.ctl.offTime 10000000 s) → exec .offTimeEnd s = .next s)
    ∧ (¬ (s.chan.inhibit = true ∧ HasRun s.chan.inhRise 100000 s) → exec .heatInhRelease s = .next s)
    ∧ (¬ HasRun s.chan.fan.lastPulse 1000000 s → exec .tachTimeout s = .next s)
    ∧ (¬ HasRun s.chan.fan.stallFrom 5000000 s → exec .stallDetected s = .next s)
    ∧ (¬ (s.ctl.overlay ≠ none ∧ s.ctl.overlayFrom + 1000000 ≤ s.clock.now) → exec .overlayEnd s = .next s)
    ∧ (∀ c : ChannelId,
        let x := channelOf c s
        let cold (r : Option Int) : Nat := if r.any (fun T => 0 ≤ T) then 2000 else 100000
        let filter := if c = .h0 then cold s.sens.effBoard else if c = .h1 then cold s.sens.effDisplay else 2000
        (¬ HasRun x.overFrom filter s → exec (.overcurrentTrip c) s = .next s)
        ∧ ((x.state = .lockedOff ∨ ∀ t ∈ x.trips, s.clock.now < t + 60000000) → exec (.tripAgeOut c) s = .next s))
    ∧ (∀ h : HeaterId,
        let x := heaterOf h s
        (¬ HasRun x.openFrom 50000 s → exec (.openLoadDetected h) s = .next s)
        ∧ (¬ HasRun x.goodFrom 50000 s → exec (.openLoadCleared h) s = .next s)
        ∧ (¬ HasRun x.shortFrom 50000 s → exec (.shortToSupplyDetected h) s = .next s)
        ∧ (¬ HasRun x.lowFrom 50000 s → exec (.shortToSupplyCleared h) s = .next s)
        ∧ (¬ (x.ch.on = true ∧ x.ch.applied < 64 ∧ s.bud.periodAt + x.ch.applied * 15625 ≤ s.clock.now) →
            exec (.heaterOnTimeEnd h) s = .next s))
    ∧ (∀ p : PortId,
        let x := portOf p s
        (x.assembly = [] ∨ s.clock.now ≤ x.lastByte + 5000 → exec (.frameGapTimeout p) s = .next s)
        ∧ (¬ (x.stalled = false ∧ HasRun x.stallFrom 500000 s) → exec (.portStalled p) s = .next s)
        ∧ (x.sending = none → exec (.transmitComplete p) s = .next s))
    ∧ (s.sup.deadline ∉ [.bootWindow, .heartbeat] ∨ s.clock.now < s.sup.expiry → exec .deadlineExpiry s = .next s)
    ∧ ((∀ e : Nat, s.sup.arm = some e → s.clock.now < e) → exec .armExpiry s = .next s)
    ∧ (s.sup.deadline ≠ .suspended ∨ (∀ x : Suspension, s.sup.suspension = some x → s.clock.now < x.expiry) →
        exec .suspensionExpiry s = .next s)
    ∧ (s.store.programming = none ∨ s.store.capture = none → ∀ a b : Bool, exec (.programmingEnd a b) s = .next s)
    ∧ (let g := s.sens.gate
       ¬ (g.satisfied = true ∧ g.complete = false ∧ s.cfg.sensing.tSoak * 1000 ≤ g.soakMs + 250) → exec .soakComplete s = .next s)
    ∧ (¬ (s.ctl.phase ≠ .cooldown ∧ 10000 ≤ s.sens.dwellMs + 250) → exec .overheatDwellExpiry s = .next s)
    ∧ (let c := s.chan.cooling
       (¬ (c.degraded = false ∧ 120000 ≤ c.setMs + 250) → exec .coolingDegradedSet s = .next s)
       ∧ (¬ (c.degraded = true ∧ 120000 ≤ c.clearMs + 250) → exec .coolingDegradedClear s = .next s))
    ∧ (∀ (p : Nat) (k : Key), s.keys.keys[p]? = some k →
        let held := min 600000 (k.held + 5)
        let next := if k.repeats = 0 then s.cfg.keypad.repeatDelay else s.cfg.keypad.repeatPeriod
        (¬ (k.state = .pressPending ∧ pressEff s ≤ k.pending + 5) → exec (.press p) s = .next s)
        ∧ (¬ (k.state = .releasePending ∧ relEff s ≤ k.pending + 5) → exec (.release p) s = .next s)
        ∧ (¬ ((k.state = .down ∨ k.state = .releasePending) ∧ s.cfg.keypad.tStuck ≠ 0 ∧ s.cfg.keypad.tStuck * 1000 ≤ held) →
            exec (.stuck p) s = .next s)
        ∧ (¬ (k.state = .stuck ∧ relEff s ≤ k.pending + 5) → exec (.stuckClear p) s = .next s)
        ∧ (¬ (k.state = .down ∧ k.repeating = true ∧ next ≤ k.repeatTime + 5) → exec (.keyRepeat p) s = .next s))
    ∧ ∀ (i : Nat) (d : ChordDef) (c : ChordRun), s.cfg.chords[i]? = some d → s.keys.chords[i]? = some c →
        ¬ (c.state = .holding ∧ d.count ≠ 0 ∧ d.holdMs ≤ c.elapsed + 5) → exec (.chordFire i) s = .next s

/-- The computer's lines, the controller's timers and the supervision follow the phase, across every step (R1, R2, R112, R115, R116). -/
def Obligations.LinesTimersAndSupervisionFollowThePhase : Prop :=
  ∀ s t : State, LinesFollowPhase s ∧ TimersFollowPhase s ∧ SupervisorFollowsPhase s → step s = .next t →
    LinesFollowPhase t ∧ TimersFollowPhase t ∧ SupervisorFollowsPhase t

/-- The queues stay within their sizes, and no key event waits and no NOTICE is outstanding outside RUN, across every step (R83, R84, R87 to R89, R121,
R138, R139, R150). -/
def Obligations.QueuesStayInBounds : Prop :=
  ∀ s t : State, LinesFollowPhase s → QueuesInBounds s → step s = .next t → QueuesInBounds t

/-- Uptime stays in its 32 bits (R3), no record is stamped ahead of it, and the history never holds K counted RESET records within one window and after
the floor, across every step (R119, R120). -/
def Obligations.EscalationStaysBounded : Prop :=
  ∀ s t : State, EscalationBounded s → step s = .next t → EscalationBounded t

/-- The settings in force, and every set the store holds, stay in their ranges, across every step (R38, R57, R91, R102, R103, R120, R134, R141). -/
def Obligations.SettingsStayInRange : Prop :=
  ∀ s t : State, SettingsInRange s → step s = .next t → SettingsInRange t

/-- The sensor records stay as R29 to R32 keep them and every effective reading in the temperature window, across every step. -/
def Obligations.SensorsStaySound : Prop :=
  ∀ s t : State, SensorsSound s → step s = .next t → SensorsSound t

/-- The charges stay within the budget total and no channel runs beyond its grant, across every step (R42, R48, R54, R65). -/
def Obligations.PowerStaysInBudget : Prop :=
  ∀ s t : State, LinesFollowPhase s → PowerInBudget s → step s = .next t → PowerInBudget t

/-- The invariants hold right after reset. -/
def Obligations.InvariantsHoldAtReset : Prop :=
  LinesFollowPhase State.reset ∧ TimersFollowPhase State.reset ∧ SupervisorFollowsPhase State.reset ∧ QueuesInBounds State.reset
  ∧ EscalationBounded State.reset ∧ SettingsInRange State.reset ∧ SensorsSound State.reset ∧ PowerInBudget State.reset
end

