-- ==== Sys2Proof/Laws/State.lean ====
section
/-! SUPPORT. For each update of one part of the state, the fields it leaves: every one is true by unfolding, and a simp lemma, so that no later
proof unfolds a record update. -/

namespace Sys2Proof.Machine

variable (s : State)

/-! ### raise -/

@[simp] theorem raise_powered (c : Cause) : (raise c s).powered = s.powered := rfl

@[simp] theorem raise_clock (c : Cause) : (raise c s).clock = s.clock := rfl

@[simp] theorem raise_pins (c : Cause) : (raise c s).pins = s.pins := rfl

@[simp] theorem raise_lines (c : Cause) : (raise c s).lines = s.lines := rfl

@[simp] theorem raise_ctl (c : Cause) : (raise c s).ctl = s.ctl := rfl

@[simp] theorem raise_sens (c : Cause) : (raise c s).sens = s.sens := rfl

@[simp] theorem raise_chan (c : Cause) : (raise c s).chan = s.chan := rfl

@[simp] theorem raise_bud (c : Cause) : (raise c s).bud = s.bud := rfl

@[simp] theorem raise_link (c : Cause) : (raise c s).link = s.link := rfl

@[simp] theorem raise_pass (c : Cause) : (raise c s).pass = s.pass := rfl

@[simp] theorem raise_sup (c : Cause) : (raise c s).sup = s.sup := rfl

@[simp] theorem raise_keys (c : Cause) : (raise c s).keys = s.keys := rfl

@[simp] theorem raise_store (c : Cause) : (raise c s).store = s.store := rfl

@[simp] theorem raise_cfg (c : Cause) : (raise c s).cfg = s.cfg := rfl

@[simp] theorem raise_pending (c : Cause) : (raise c s).pending = s.pending := rfl

@[simp] theorem raise_pace (c : Cause) : (raise c s).pace = s.pace := rfl

@[simp] theorem raise_draw (c : Cause) : (raise c s).draw = s.draw := rfl

/-! ### raiseIf -/

@[simp] theorem raiseIf_powered (b : Bool) (c : Cause) : (raiseIf b c s).powered = s.powered := by cases b <;> rfl

@[simp] theorem raiseIf_clock (b : Bool) (c : Cause) : (raiseIf b c s).clock = s.clock := by cases b <;> rfl

@[simp] theorem raiseIf_pins (b : Bool) (c : Cause) : (raiseIf b c s).pins = s.pins := by cases b <;> rfl

@[simp] theorem raiseIf_lines (b : Bool) (c : Cause) : (raiseIf b c s).lines = s.lines := by cases b <;> rfl

@[simp] theorem raiseIf_ctl (b : Bool) (c : Cause) : (raiseIf b c s).ctl = s.ctl := by cases b <;> rfl

@[simp] theorem raiseIf_sens (b : Bool) (c : Cause) : (raiseIf b c s).sens = s.sens := by cases b <;> rfl

@[simp] theorem raiseIf_chan (b : Bool) (c : Cause) : (raiseIf b c s).chan = s.chan := by cases b <;> rfl

@[simp] theorem raiseIf_bud (b : Bool) (c : Cause) : (raiseIf b c s).bud = s.bud := by cases b <;> rfl

@[simp] theorem raiseIf_link (b : Bool) (c : Cause) : (raiseIf b c s).link = s.link := by cases b <;> rfl

@[simp] theorem raiseIf_pass (b : Bool) (c : Cause) : (raiseIf b c s).pass = s.pass := by cases b <;> rfl

@[simp] theorem raiseIf_sup (b : Bool) (c : Cause) : (raiseIf b c s).sup = s.sup := by cases b <;> rfl

@[simp] theorem raiseIf_keys (b : Bool) (c : Cause) : (raiseIf b c s).keys = s.keys := by cases b <;> rfl

@[simp] theorem raiseIf_store (b : Bool) (c : Cause) : (raiseIf b c s).store = s.store := by cases b <;> rfl

@[simp] theorem raiseIf_cfg (b : Bool) (c : Cause) : (raiseIf b c s).cfg = s.cfg := by cases b <;> rfl

@[simp] theorem raiseIf_pending (b : Bool) (c : Cause) : (raiseIf b c s).pending = s.pending := by cases b <;> rfl

@[simp] theorem raiseIf_pace (b : Bool) (c : Cause) : (raiseIf b c s).pace = s.pace := by cases b <;> rfl

@[simp] theorem raiseIf_draw (b : Bool) (c : Cause) : (raiseIf b c s).draw = s.draw := by cases b <;> rfl

/-! ### setChannel -/

@[simp] theorem setChannel_powered (c : ChannelId) (x : Channel) : (setChannel c x s).powered = s.powered := by cases c <;> rfl

@[simp] theorem setChannel_clock (c : ChannelId) (x : Channel) : (setChannel c x s).clock = s.clock := by cases c <;> rfl

@[simp] theorem setChannel_pins (c : ChannelId) (x : Channel) : (setChannel c x s).pins = s.pins := by cases c <;> rfl

@[simp] theorem setChannel_lines (c : ChannelId) (x : Channel) : (setChannel c x s).lines = s.lines := by cases c <;> rfl

@[simp] theorem setChannel_ctl (c : ChannelId) (x : Channel) : (setChannel c x s).ctl = s.ctl := by cases c <;> rfl

@[simp] theorem setChannel_sens (c : ChannelId) (x : Channel) : (setChannel c x s).sens = s.sens := by cases c <;> rfl

@[simp] theorem setChannel_bud (c : ChannelId) (x : Channel) : (setChannel c x s).bud = s.bud := by cases c <;> rfl

@[simp] theorem setChannel_link (c : ChannelId) (x : Channel) : (setChannel c x s).link = s.link := by cases c <;> rfl

@[simp] theorem setChannel_pass (c : ChannelId) (x : Channel) : (setChannel c x s).pass = s.pass := by cases c <;> rfl

@[simp] theorem setChannel_sup (c : ChannelId) (x : Channel) : (setChannel c x s).sup = s.sup := by cases c <;> rfl

@[simp] theorem setChannel_keys (c : ChannelId) (x : Channel) : (setChannel c x s).keys = s.keys := by cases c <;> rfl

@[simp] theorem setChannel_note (c : ChannelId) (x : Channel) : (setChannel c x s).note = s.note := by cases c <;> rfl

@[simp] theorem setChannel_store (c : ChannelId) (x : Channel) : (setChannel c x s).store = s.store := by cases c <;> rfl

@[simp] theorem setChannel_cfg (c : ChannelId) (x : Channel) : (setChannel c x s).cfg = s.cfg := by cases c <;> rfl

@[simp] theorem setChannel_pending (c : ChannelId) (x : Channel) : (setChannel c x s).pending = s.pending := by cases c <;> rfl

@[simp] theorem setChannel_pace (c : ChannelId) (x : Channel) : (setChannel c x s).pace = s.pace := by cases c <;> rfl

@[simp] theorem setChannel_draw (c : ChannelId) (x : Channel) : (setChannel c x s).draw = s.draw := by cases c <;> rfl

/-! ### setHeater -/

@[simp] theorem setHeater_powered (h : HeaterId) (x : Heater) : (setHeater h x s).powered = s.powered := by cases h <;> rfl

@[simp] theorem setHeater_clock (h : HeaterId) (x : Heater) : (setHeater h x s).clock = s.clock := by cases h <;> rfl

@[simp] theorem setHeater_pins (h : HeaterId) (x : Heater) : (setHeater h x s).pins = s.pins := by cases h <;> rfl

@[simp] theorem setHeater_lines (h : HeaterId) (x : Heater) : (setHeater h x s).lines = s.lines := by cases h <;> rfl

@[simp] theorem setHeater_ctl (h : HeaterId) (x : Heater) : (setHeater h x s).ctl = s.ctl := by cases h <;> rfl

@[simp] theorem setHeater_sens (h : HeaterId) (x : Heater) : (setHeater h x s).sens = s.sens := by cases h <;> rfl

@[simp] theorem setHeater_bud (h : HeaterId) (x : Heater) : (setHeater h x s).bud = s.bud := by cases h <;> rfl

@[simp] theorem setHeater_link (h : HeaterId) (x : Heater) : (setHeater h x s).link = s.link := by cases h <;> rfl

@[simp] theorem setHeater_pass (h : HeaterId) (x : Heater) : (setHeater h x s).pass = s.pass := by cases h <;> rfl

@[simp] theorem setHeater_sup (h : HeaterId) (x : Heater) : (setHeater h x s).sup = s.sup := by cases h <;> rfl

@[simp] theorem setHeater_keys (h : HeaterId) (x : Heater) : (setHeater h x s).keys = s.keys := by cases h <;> rfl

@[simp] theorem setHeater_note (h : HeaterId) (x : Heater) : (setHeater h x s).note = s.note := by cases h <;> rfl

@[simp] theorem setHeater_store (h : HeaterId) (x : Heater) : (setHeater h x s).store = s.store := by cases h <;> rfl

@[simp] theorem setHeater_cfg (h : HeaterId) (x : Heater) : (setHeater h x s).cfg = s.cfg := by cases h <;> rfl

@[simp] theorem setHeater_pending (h : HeaterId) (x : Heater) : (setHeater h x s).pending = s.pending := by cases h <;> rfl

@[simp] theorem setHeater_pace (h : HeaterId) (x : Heater) : (setHeater h x s).pace = s.pace := by cases h <;> rfl

@[simp] theorem setHeater_draw (h : HeaterId) (x : Heater) : (setHeater h x s).draw = s.draw := by cases h <;> rfl

/-! ### syncHeater -/

@[simp] theorem syncHeater_powered (h : HeaterId) : (syncHeater h s).powered = s.powered := by cases h <;> rfl

@[simp] theorem syncHeater_clock (h : HeaterId) : (syncHeater h s).clock = s.clock := by cases h <;> rfl

@[simp] theorem syncHeater_pins (h : HeaterId) : (syncHeater h s).pins = s.pins := by cases h <;> rfl

@[simp] theorem syncHeater_lines (h : HeaterId) : (syncHeater h s).lines = s.lines := by cases h <;> rfl

@[simp] theorem syncHeater_ctl (h : HeaterId) : (syncHeater h s).ctl = s.ctl := by cases h <;> rfl

@[simp] theorem syncHeater_sens (h : HeaterId) : (syncHeater h s).sens = s.sens := by cases h <;> rfl

@[simp] theorem syncHeater_bud (h : HeaterId) : (syncHeater h s).bud = s.bud := by cases h <;> rfl

@[simp] theorem syncHeater_link (h : HeaterId) : (syncHeater h s).link = s.link := by cases h <;> rfl

@[simp] theorem syncHeater_pass (h : HeaterId) : (syncHeater h s).pass = s.pass := by cases h <;> rfl

@[simp] theorem syncHeater_sup (h : HeaterId) : (syncHeater h s).sup = s.sup := by cases h <;> rfl

@[simp] theorem syncHeater_keys (h : HeaterId) : (syncHeater h s).keys = s.keys := by cases h <;> rfl

@[simp] theorem syncHeater_note (h : HeaterId) : (syncHeater h s).note = s.note := by cases h <;> rfl

@[simp] theorem syncHeater_store (h : HeaterId) : (syncHeater h s).store = s.store := by cases h <;> rfl

@[simp] theorem syncHeater_cfg (h : HeaterId) : (syncHeater h s).cfg = s.cfg := by cases h <;> rfl

@[simp] theorem syncHeater_pending (h : HeaterId) : (syncHeater h s).pending = s.pending := by cases h <;> rfl

@[simp] theorem syncHeater_pace (h : HeaterId) : (syncHeater h s).pace = s.pace := by cases h <;> rfl

@[simp] theorem syncHeater_draw (h : HeaterId) : (syncHeater h s).draw = s.draw := by cases h <;> rfl

/-! ### syncFan -/

@[simp] theorem syncFan_powered : (syncFan s).powered = s.powered := rfl

@[simp] theorem syncFan_clock : (syncFan s).clock = s.clock := rfl

@[simp] theorem syncFan_pins : (syncFan s).pins = s.pins := rfl

@[simp] theorem syncFan_lines : (syncFan s).lines = s.lines := rfl

@[simp] theorem syncFan_ctl : (syncFan s).ctl = s.ctl := rfl

@[simp] theorem syncFan_sens : (syncFan s).sens = s.sens := rfl

@[simp] theorem syncFan_bud : (syncFan s).bud = s.bud := rfl

@[simp] theorem syncFan_link : (syncFan s).link = s.link := rfl

@[simp] theorem syncFan_pass : (syncFan s).pass = s.pass := rfl

@[simp] theorem syncFan_sup : (syncFan s).sup = s.sup := rfl

@[simp] theorem syncFan_keys : (syncFan s).keys = s.keys := rfl

@[simp] theorem syncFan_note : (syncFan s).note = s.note := rfl

@[simp] theorem syncFan_store : (syncFan s).store = s.store := rfl

@[simp] theorem syncFan_cfg : (syncFan s).cfg = s.cfg := rfl

@[simp] theorem syncFan_pending : (syncFan s).pending = s.pending := rfl

@[simp] theorem syncFan_pace : (syncFan s).pace = s.pace := rfl

@[simp] theorem syncFan_draw : (syncFan s).draw = s.draw := rfl

/-! ### zeroBase -/

@[simp] theorem zeroBase_powered (c : ChannelId) : (zeroBase c s).powered = s.powered := by cases c <;> rfl

@[simp] theorem zeroBase_clock (c : ChannelId) : (zeroBase c s).clock = s.clock := by cases c <;> rfl

@[simp] theorem zeroBase_pins (c : ChannelId) : (zeroBase c s).pins = s.pins := by cases c <;> rfl

@[simp] theorem zeroBase_lines (c : ChannelId) : (zeroBase c s).lines = s.lines := by cases c <;> rfl

@[simp] theorem zeroBase_ctl (c : ChannelId) : (zeroBase c s).ctl = s.ctl := by cases c <;> rfl

@[simp] theorem zeroBase_sens (c : ChannelId) : (zeroBase c s).sens = s.sens := by cases c <;> rfl

@[simp] theorem zeroBase_bud (c : ChannelId) : (zeroBase c s).bud = s.bud := by cases c <;> rfl

@[simp] theorem zeroBase_link (c : ChannelId) : (zeroBase c s).link = s.link := by cases c <;> rfl

@[simp] theorem zeroBase_pass (c : ChannelId) : (zeroBase c s).pass = s.pass := by cases c <;> rfl

@[simp] theorem zeroBase_sup (c : ChannelId) : (zeroBase c s).sup = s.sup := by cases c <;> rfl

@[simp] theorem zeroBase_keys (c : ChannelId) : (zeroBase c s).keys = s.keys := by cases c <;> rfl

@[simp] theorem zeroBase_note (c : ChannelId) : (zeroBase c s).note = s.note := by cases c <;> rfl

@[simp] theorem zeroBase_store (c : ChannelId) : (zeroBase c s).store = s.store := by cases c <;> rfl

@[simp] theorem zeroBase_cfg (c : ChannelId) : (zeroBase c s).cfg = s.cfg := by cases c <;> rfl

@[simp] theorem zeroBase_pending (c : ChannelId) : (zeroBase c s).pending = s.pending := by cases c <;> rfl

@[simp] theorem zeroBase_pace (c : ChannelId) : (zeroBase c s).pace = s.pace := by cases c <;> rfl

@[simp] theorem zeroBase_draw (c : ChannelId) : (zeroBase c s).draw = s.draw := by cases c <;> rfl

/-! ### setPort -/

@[simp] theorem setPort_powered (p : PortId) (x : Port) : (setPort p x s).powered = s.powered := by cases p <;> rfl

@[simp] theorem setPort_clock (p : PortId) (x : Port) : (setPort p x s).clock = s.clock := by cases p <;> rfl

@[simp] theorem setPort_pins (p : PortId) (x : Port) : (setPort p x s).pins = s.pins := by cases p <;> rfl

@[simp] theorem setPort_lines (p : PortId) (x : Port) : (setPort p x s).lines = s.lines := by cases p <;> rfl

@[simp] theorem setPort_ctl (p : PortId) (x : Port) : (setPort p x s).ctl = s.ctl := by cases p <;> rfl

@[simp] theorem setPort_sens (p : PortId) (x : Port) : (setPort p x s).sens = s.sens := by cases p <;> rfl

@[simp] theorem setPort_chan (p : PortId) (x : Port) : (setPort p x s).chan = s.chan := by cases p <;> rfl

@[simp] theorem setPort_bud (p : PortId) (x : Port) : (setPort p x s).bud = s.bud := by cases p <;> rfl

@[simp] theorem setPort_pass (p : PortId) (x : Port) : (setPort p x s).pass = s.pass := by cases p <;> rfl

@[simp] theorem setPort_sup (p : PortId) (x : Port) : (setPort p x s).sup = s.sup := by cases p <;> rfl

@[simp] theorem setPort_keys (p : PortId) (x : Port) : (setPort p x s).keys = s.keys := by cases p <;> rfl

@[simp] theorem setPort_note (p : PortId) (x : Port) : (setPort p x s).note = s.note := by cases p <;> rfl

@[simp] theorem setPort_store (p : PortId) (x : Port) : (setPort p x s).store = s.store := by cases p <;> rfl

@[simp] theorem setPort_cfg (p : PortId) (x : Port) : (setPort p x s).cfg = s.cfg := by cases p <;> rfl

@[simp] theorem setPort_pending (p : PortId) (x : Port) : (setPort p x s).pending = s.pending := by cases p <;> rfl

@[simp] theorem setPort_pace (p : PortId) (x : Port) : (setPort p x s).pace = s.pace := by cases p <;> rfl

@[simp] theorem setPort_draw (p : PortId) (x : Port) : (setPort p x s).draw = s.draw := by cases p <;> rfl

/-! ### countOn -/

@[simp] theorem countOn_powered (p : PortId) (f : Counters → Counters) : (countOn p f s).powered = s.powered := by cases p <;> rfl

@[simp] theorem countOn_clock (p : PortId) (f : Counters → Counters) : (countOn p f s).clock = s.clock := by cases p <;> rfl

@[simp] theorem countOn_pins (p : PortId) (f : Counters → Counters) : (countOn p f s).pins = s.pins := by cases p <;> rfl

@[simp] theorem countOn_lines (p : PortId) (f : Counters → Counters) : (countOn p f s).lines = s.lines := by cases p <;> rfl

@[simp] theorem countOn_ctl (p : PortId) (f : Counters → Counters) : (countOn p f s).ctl = s.ctl := by cases p <;> rfl

@[simp] theorem countOn_sens (p : PortId) (f : Counters → Counters) : (countOn p f s).sens = s.sens := by cases p <;> rfl

@[simp] theorem countOn_chan (p : PortId) (f : Counters → Counters) : (countOn p f s).chan = s.chan := by cases p <;> rfl

@[simp] theorem countOn_bud (p : PortId) (f : Counters → Counters) : (countOn p f s).bud = s.bud := by cases p <;> rfl

@[simp] theorem countOn_pass (p : PortId) (f : Counters → Counters) : (countOn p f s).pass = s.pass := by cases p <;> rfl

@[simp] theorem countOn_sup (p : PortId) (f : Counters → Counters) : (countOn p f s).sup = s.sup := by cases p <;> rfl

@[simp] theorem countOn_keys (p : PortId) (f : Counters → Counters) : (countOn p f s).keys = s.keys := by cases p <;> rfl

@[simp] theorem countOn_note (p : PortId) (f : Counters → Counters) : (countOn p f s).note = s.note := by cases p <;> rfl

@[simp] theorem countOn_store (p : PortId) (f : Counters → Counters) : (countOn p f s).store = s.store := by cases p <;> rfl

@[simp] theorem countOn_cfg (p : PortId) (f : Counters → Counters) : (countOn p f s).cfg = s.cfg := by cases p <;> rfl

@[simp] theorem countOn_pending (p : PortId) (f : Counters → Counters) : (countOn p f s).pending = s.pending := by cases p <;> rfl

@[simp] theorem countOn_pace (p : PortId) (f : Counters → Counters) : (countOn p f s).pace = s.pace := by cases p <;> rfl

@[simp] theorem countOn_draw (p : PortId) (f : Counters → Counters) : (countOn p f s).draw = s.draw := by cases p <;> rfl

/-! ### syncStall -/

@[simp] theorem syncStall_powered (p : PortId) : (syncStall p s).powered = s.powered := by cases p <;> rfl

@[simp] theorem syncStall_clock (p : PortId) : (syncStall p s).clock = s.clock := by cases p <;> rfl

@[simp] theorem syncStall_pins (p : PortId) : (syncStall p s).pins = s.pins := by cases p <;> rfl

@[simp] theorem syncStall_lines (p : PortId) : (syncStall p s).lines = s.lines := by cases p <;> rfl

@[simp] theorem syncStall_ctl (p : PortId) : (syncStall p s).ctl = s.ctl := by cases p <;> rfl

@[simp] theorem syncStall_sens (p : PortId) : (syncStall p s).sens = s.sens := by cases p <;> rfl

@[simp] theorem syncStall_chan (p : PortId) : (syncStall p s).chan = s.chan := by cases p <;> rfl

@[simp] theorem syncStall_bud (p : PortId) : (syncStall p s).bud = s.bud := by cases p <;> rfl

@[simp] theorem syncStall_pass (p : PortId) : (syncStall p s).pass = s.pass := by cases p <;> rfl

@[simp] theorem syncStall_sup (p : PortId) : (syncStall p s).sup = s.sup := by cases p <;> rfl

@[simp] theorem syncStall_keys (p : PortId) : (syncStall p s).keys = s.keys := by cases p <;> rfl

@[simp] theorem syncStall_note (p : PortId) : (syncStall p s).note = s.note := by cases p <;> rfl

@[simp] theorem syncStall_store (p : PortId) : (syncStall p s).store = s.store := by cases p <;> rfl

@[simp] theorem syncStall_cfg (p : PortId) : (syncStall p s).cfg = s.cfg := by cases p <;> rfl

@[simp] theorem syncStall_pending (p : PortId) : (syncStall p s).pending = s.pending := by cases p <;> rfl

@[simp] theorem syncStall_pace (p : PortId) : (syncStall p s).pace = s.pace := by cases p <;> rfl

@[simp] theorem syncStall_draw (p : PortId) : (syncStall p s).draw = s.draw := by cases p <;> rfl

/-! ### setDown -/

@[simp] theorem setDown_powered (q : List DownFrame) : (setDown q s).powered = s.powered := rfl

@[simp] theorem setDown_clock (q : List DownFrame) : (setDown q s).clock = s.clock := rfl

@[simp] theorem setDown_pins (q : List DownFrame) : (setDown q s).pins = s.pins := rfl

@[simp] theorem setDown_lines (q : List DownFrame) : (setDown q s).lines = s.lines := rfl

@[simp] theorem setDown_ctl (q : List DownFrame) : (setDown q s).ctl = s.ctl := rfl

@[simp] theorem setDown_sens (q : List DownFrame) : (setDown q s).sens = s.sens := rfl

@[simp] theorem setDown_chan (q : List DownFrame) : (setDown q s).chan = s.chan := rfl

@[simp] theorem setDown_bud (q : List DownFrame) : (setDown q s).bud = s.bud := rfl

@[simp] theorem setDown_pass (q : List DownFrame) : (setDown q s).pass = s.pass := rfl

@[simp] theorem setDown_sup (q : List DownFrame) : (setDown q s).sup = s.sup := rfl

@[simp] theorem setDown_keys (q : List DownFrame) : (setDown q s).keys = s.keys := rfl

@[simp] theorem setDown_note (q : List DownFrame) : (setDown q s).note = s.note := rfl

@[simp] theorem setDown_store (q : List DownFrame) : (setDown q s).store = s.store := rfl

@[simp] theorem setDown_cfg (q : List DownFrame) : (setDown q s).cfg = s.cfg := rfl

@[simp] theorem setDown_pending (q : List DownFrame) : (setDown q s).pending = s.pending := rfl

@[simp] theorem setDown_pace (q : List DownFrame) : (setDown q s).pace = s.pace := rfl

@[simp] theorem setDown_draw (q : List DownFrame) : (setDown q s).draw = s.draw := rfl

/-! ### setUp -/

@[simp] theorem setUp_powered (q : List UpFrame) : (setUp q s).powered = s.powered := rfl

@[simp] theorem setUp_clock (q : List UpFrame) : (setUp q s).clock = s.clock := rfl

@[simp] theorem setUp_pins (q : List UpFrame) : (setUp q s).pins = s.pins := rfl

@[simp] theorem setUp_lines (q : List UpFrame) : (setUp q s).lines = s.lines := rfl

@[simp] theorem setUp_ctl (q : List UpFrame) : (setUp q s).ctl = s.ctl := rfl

@[simp] theorem setUp_sens (q : List UpFrame) : (setUp q s).sens = s.sens := rfl

@[simp] theorem setUp_chan (q : List UpFrame) : (setUp q s).chan = s.chan := rfl

@[simp] theorem setUp_bud (q : List UpFrame) : (setUp q s).bud = s.bud := rfl

@[simp] theorem setUp_pass (q : List UpFrame) : (setUp q s).pass = s.pass := rfl

@[simp] theorem setUp_sup (q : List UpFrame) : (setUp q s).sup = s.sup := rfl

@[simp] theorem setUp_keys (q : List UpFrame) : (setUp q s).keys = s.keys := rfl

@[simp] theorem setUp_note (q : List UpFrame) : (setUp q s).note = s.note := rfl

@[simp] theorem setUp_store (q : List UpFrame) : (setUp q s).store = s.store := rfl

@[simp] theorem setUp_cfg (q : List UpFrame) : (setUp q s).cfg = s.cfg := rfl

@[simp] theorem setUp_pending (q : List UpFrame) : (setUp q s).pending = s.pending := rfl

@[simp] theorem setUp_pace (q : List UpFrame) : (setUp q s).pace = s.pace := rfl

@[simp] theorem setUp_draw (q : List UpFrame) : (setUp q s).draw = s.draw := rfl

/-! ### pushUp -/

@[simp] theorem pushUp_powered (r : Rank) (cls : Byte) (p : List Byte) : (pushUp r cls p s).powered = s.powered := rfl

@[simp] theorem pushUp_clock (r : Rank) (cls : Byte) (p : List Byte) : (pushUp r cls p s).clock = s.clock := rfl

@[simp] theorem pushUp_pins (r : Rank) (cls : Byte) (p : List Byte) : (pushUp r cls p s).pins = s.pins := rfl

@[simp] theorem pushUp_lines (r : Rank) (cls : Byte) (p : List Byte) : (pushUp r cls p s).lines = s.lines := rfl

@[simp] theorem pushUp_ctl (r : Rank) (cls : Byte) (p : List Byte) : (pushUp r cls p s).ctl = s.ctl := rfl

@[simp] theorem pushUp_sens (r : Rank) (cls : Byte) (p : List Byte) : (pushUp r cls p s).sens = s.sens := rfl

@[simp] theorem pushUp_chan (r : Rank) (cls : Byte) (p : List Byte) : (pushUp r cls p s).chan = s.chan := rfl

@[simp] theorem pushUp_bud (r : Rank) (cls : Byte) (p : List Byte) : (pushUp r cls p s).bud = s.bud := rfl

@[simp] theorem pushUp_pass (r : Rank) (cls : Byte) (p : List Byte) : (pushUp r cls p s).pass = s.pass := rfl

@[simp] theorem pushUp_sup (r : Rank) (cls : Byte) (p : List Byte) : (pushUp r cls p s).sup = s.sup := rfl

@[simp] theorem pushUp_keys (r : Rank) (cls : Byte) (p : List Byte) : (pushUp r cls p s).keys = s.keys := rfl

@[simp] theorem pushUp_note (r : Rank) (cls : Byte) (p : List Byte) : (pushUp r cls p s).note = s.note := rfl

@[simp] theorem pushUp_store (r : Rank) (cls : Byte) (p : List Byte) : (pushUp r cls p s).store = s.store := rfl

@[simp] theorem pushUp_cfg (r : Rank) (cls : Byte) (p : List Byte) : (pushUp r cls p s).cfg = s.cfg := rfl

@[simp] theorem pushUp_pending (r : Rank) (cls : Byte) (p : List Byte) : (pushUp r cls p s).pending = s.pending := rfl

@[simp] theorem pushUp_pace (r : Rank) (cls : Byte) (p : List Byte) : (pushUp r cls p s).pace = s.pace := rfl

@[simp] theorem pushUp_draw (r : Rank) (cls : Byte) (p : List Byte) : (pushUp r cls p s).draw = s.draw := rfl

/-! ### setSensor -/

@[simp] theorem setSensor_powered (i : SensorId) (x : Sensor) : (setSensor i x s).powered = s.powered := by cases i <;> rfl

@[simp] theorem setSensor_clock (i : SensorId) (x : Sensor) : (setSensor i x s).clock = s.clock := by cases i <;> rfl

@[simp] theorem setSensor_pins (i : SensorId) (x : Sensor) : (setSensor i x s).pins = s.pins := by cases i <;> rfl

@[simp] theorem setSensor_lines (i : SensorId) (x : Sensor) : (setSensor i x s).lines = s.lines := by cases i <;> rfl

@[simp] theorem setSensor_ctl (i : SensorId) (x : Sensor) : (setSensor i x s).ctl = s.ctl := by cases i <;> rfl

@[simp] theorem setSensor_chan (i : SensorId) (x : Sensor) : (setSensor i x s).chan = s.chan := by cases i <;> rfl

@[simp] theorem setSensor_bud (i : SensorId) (x : Sensor) : (setSensor i x s).bud = s.bud := by cases i <;> rfl

@[simp] theorem setSensor_link (i : SensorId) (x : Sensor) : (setSensor i x s).link = s.link := by cases i <;> rfl

@[simp] theorem setSensor_pass (i : SensorId) (x : Sensor) : (setSensor i x s).pass = s.pass := by cases i <;> rfl

@[simp] theorem setSensor_sup (i : SensorId) (x : Sensor) : (setSensor i x s).sup = s.sup := by cases i <;> rfl

@[simp] theorem setSensor_keys (i : SensorId) (x : Sensor) : (setSensor i x s).keys = s.keys := by cases i <;> rfl

@[simp] theorem setSensor_note (i : SensorId) (x : Sensor) : (setSensor i x s).note = s.note := by cases i <;> rfl

@[simp] theorem setSensor_store (i : SensorId) (x : Sensor) : (setSensor i x s).store = s.store := by cases i <;> rfl

@[simp] theorem setSensor_cfg (i : SensorId) (x : Sensor) : (setSensor i x s).cfg = s.cfg := by cases i <;> rfl

@[simp] theorem setSensor_pending (i : SensorId) (x : Sensor) : (setSensor i x s).pending = s.pending := by cases i <;> rfl

@[simp] theorem setSensor_pace (i : SensorId) (x : Sensor) : (setSensor i x s).pace = s.pace := by cases i <;> rfl

@[simp] theorem setSensor_draw (i : SensorId) (x : Sensor) : (setSensor i x s).draw = s.draw := by cases i <;> rfl

/-! ### elapse -/

@[simp] theorem elapse_powered (d : Nat) : (elapse d s).powered = s.powered := rfl

@[simp] theorem elapse_pins (d : Nat) : (elapse d s).pins = s.pins := rfl

@[simp] theorem elapse_lines (d : Nat) : (elapse d s).lines = s.lines := rfl

@[simp] theorem elapse_ctl (d : Nat) : (elapse d s).ctl = s.ctl := rfl

@[simp] theorem elapse_sens (d : Nat) : (elapse d s).sens = s.sens := rfl

@[simp] theorem elapse_chan (d : Nat) : (elapse d s).chan = s.chan := rfl

@[simp] theorem elapse_bud (d : Nat) : (elapse d s).bud = s.bud := rfl

@[simp] theorem elapse_link (d : Nat) : (elapse d s).link = s.link := rfl

@[simp] theorem elapse_pass (d : Nat) : (elapse d s).pass = s.pass := rfl

@[simp] theorem elapse_sup (d : Nat) : (elapse d s).sup = s.sup := rfl

@[simp] theorem elapse_keys (d : Nat) : (elapse d s).keys = s.keys := rfl

@[simp] theorem elapse_note (d : Nat) : (elapse d s).note = s.note := rfl

@[simp] theorem elapse_store (d : Nat) : (elapse d s).store = s.store := rfl

@[simp] theorem elapse_cfg (d : Nat) : (elapse d s).cfg = s.cfg := rfl

@[simp] theorem elapse_pending (d : Nat) : (elapse d s).pending = s.pending := rfl

@[simp] theorem elapse_pace (d : Nat) : (elapse d s).pace = s.pace := rfl

@[simp] theorem elapse_draw (d : Nat) : (elapse d s).draw = s.draw := rfl

/-! ### setRdyIn -/

@[simp] theorem setRdyIn_powered (p : PortId) (b : Bool) : (setRdyIn p b s).powered = s.powered := by cases p <;> rfl

@[simp] theorem setRdyIn_clock (p : PortId) (b : Bool) : (setRdyIn p b s).clock = s.clock := by cases p <;> rfl

@[simp] theorem setRdyIn_lines (p : PortId) (b : Bool) : (setRdyIn p b s).lines = s.lines := by cases p <;> rfl

@[simp] theorem setRdyIn_ctl (p : PortId) (b : Bool) : (setRdyIn p b s).ctl = s.ctl := by cases p <;> rfl

@[simp] theorem setRdyIn_sens (p : PortId) (b : Bool) : (setRdyIn p b s).sens = s.sens := by cases p <;> rfl

@[simp] theorem setRdyIn_chan (p : PortId) (b : Bool) : (setRdyIn p b s).chan = s.chan := by cases p <;> rfl

@[simp] theorem setRdyIn_bud (p : PortId) (b : Bool) : (setRdyIn p b s).bud = s.bud := by cases p <;> rfl

@[simp] theorem setRdyIn_link (p : PortId) (b : Bool) : (setRdyIn p b s).link = s.link := by cases p <;> rfl

@[simp] theorem setRdyIn_pass (p : PortId) (b : Bool) : (setRdyIn p b s).pass = s.pass := by cases p <;> rfl

@[simp] theorem setRdyIn_sup (p : PortId) (b : Bool) : (setRdyIn p b s).sup = s.sup := by cases p <;> rfl

@[simp] theorem setRdyIn_keys (p : PortId) (b : Bool) : (setRdyIn p b s).keys = s.keys := by cases p <;> rfl

@[simp] theorem setRdyIn_note (p : PortId) (b : Bool) : (setRdyIn p b s).note = s.note := by cases p <;> rfl

@[simp] theorem setRdyIn_store (p : PortId) (b : Bool) : (setRdyIn p b s).store = s.store := by cases p <;> rfl

@[simp] theorem setRdyIn_cfg (p : PortId) (b : Bool) : (setRdyIn p b s).cfg = s.cfg := by cases p <;> rfl

@[simp] theorem setRdyIn_pending (p : PortId) (b : Bool) : (setRdyIn p b s).pending = s.pending := by cases p <;> rfl

@[simp] theorem setRdyIn_pace (p : PortId) (b : Bool) : (setRdyIn p b s).pace = s.pace := by cases p <;> rfl

@[simp] theorem setRdyIn_draw (p : PortId) (b : Bool) : (setRdyIn p b s).draw = s.draw := by cases p <;> rfl

/-! ### setToken -/

@[simp] theorem setToken_powered (src : HeartbeatSource) (t : Option Byte) : (setToken src t s).powered = s.powered := by cases src <;> rfl

@[simp] theorem setToken_clock (src : HeartbeatSource) (t : Option Byte) : (setToken src t s).clock = s.clock := by cases src <;> rfl

@[simp] theorem setToken_pins (src : HeartbeatSource) (t : Option Byte) : (setToken src t s).pins = s.pins := by cases src <;> rfl

@[simp] theorem setToken_lines (src : HeartbeatSource) (t : Option Byte) : (setToken src t s).lines = s.lines := by cases src <;> rfl

@[simp] theorem setToken_ctl (src : HeartbeatSource) (t : Option Byte) : (setToken src t s).ctl = s.ctl := by cases src <;> rfl

@[simp] theorem setToken_sens (src : HeartbeatSource) (t : Option Byte) : (setToken src t s).sens = s.sens := by cases src <;> rfl

@[simp] theorem setToken_chan (src : HeartbeatSource) (t : Option Byte) : (setToken src t s).chan = s.chan := by cases src <;> rfl

@[simp] theorem setToken_bud (src : HeartbeatSource) (t : Option Byte) : (setToken src t s).bud = s.bud := by cases src <;> rfl

@[simp] theorem setToken_link (src : HeartbeatSource) (t : Option Byte) : (setToken src t s).link = s.link := by cases src <;> rfl

@[simp] theorem setToken_pass (src : HeartbeatSource) (t : Option Byte) : (setToken src t s).pass = s.pass := by cases src <;> rfl

@[simp] theorem setToken_keys (src : HeartbeatSource) (t : Option Byte) : (setToken src t s).keys = s.keys := by cases src <;> rfl

@[simp] theorem setToken_note (src : HeartbeatSource) (t : Option Byte) : (setToken src t s).note = s.note := by cases src <;> rfl

@[simp] theorem setToken_store (src : HeartbeatSource) (t : Option Byte) : (setToken src t s).store = s.store := by cases src <;> rfl

@[simp] theorem setToken_cfg (src : HeartbeatSource) (t : Option Byte) : (setToken src t s).cfg = s.cfg := by cases src <;> rfl

@[simp] theorem setToken_pending (src : HeartbeatSource) (t : Option Byte) : (setToken src t s).pending = s.pending := by cases src <;> rfl

@[simp] theorem setToken_pace (src : HeartbeatSource) (t : Option Byte) : (setToken src t s).pace = s.pace := by cases src <;> rfl

@[simp] theorem setToken_draw (src : HeartbeatSource) (t : Option Byte) : (setToken src t s).draw = s.draw := by cases src <;> rfl

/-! ### showOverlay -/

@[simp] theorem showOverlay_powered (o : Overlay) : (showOverlay o s).powered = s.powered := rfl

@[simp] theorem showOverlay_clock (o : Overlay) : (showOverlay o s).clock = s.clock := rfl

@[simp] theorem showOverlay_pins (o : Overlay) : (showOverlay o s).pins = s.pins := rfl

@[simp] theorem showOverlay_lines (o : Overlay) : (showOverlay o s).lines = s.lines := rfl

@[simp] theorem showOverlay_sens (o : Overlay) : (showOverlay o s).sens = s.sens := rfl

@[simp] theorem showOverlay_chan (o : Overlay) : (showOverlay o s).chan = s.chan := rfl

@[simp] theorem showOverlay_bud (o : Overlay) : (showOverlay o s).bud = s.bud := rfl

@[simp] theorem showOverlay_link (o : Overlay) : (showOverlay o s).link = s.link := rfl

@[simp] theorem showOverlay_pass (o : Overlay) : (showOverlay o s).pass = s.pass := rfl

@[simp] theorem showOverlay_sup (o : Overlay) : (showOverlay o s).sup = s.sup := rfl

@[simp] theorem showOverlay_keys (o : Overlay) : (showOverlay o s).keys = s.keys := rfl

@[simp] theorem showOverlay_note (o : Overlay) : (showOverlay o s).note = s.note := rfl

@[simp] theorem showOverlay_store (o : Overlay) : (showOverlay o s).store = s.store := rfl

@[simp] theorem showOverlay_cfg (o : Overlay) : (showOverlay o s).cfg = s.cfg := rfl

@[simp] theorem showOverlay_pending (o : Overlay) : (showOverlay o s).pending = s.pending := rfl

@[simp] theorem showOverlay_pace (o : Overlay) : (showOverlay o s).pace = s.pace := rfl

@[simp] theorem showOverlay_draw (o : Overlay) : (showOverlay o s).draw = s.draw := rfl

/-! ### stopSupervision -/

@[simp] theorem stopSupervision_powered : (stopSupervision s).powered = s.powered := rfl

@[simp] theorem stopSupervision_clock : (stopSupervision s).clock = s.clock := rfl

@[simp] theorem stopSupervision_pins : (stopSupervision s).pins = s.pins := rfl

@[simp] theorem stopSupervision_lines : (stopSupervision s).lines = s.lines := rfl

@[simp] theorem stopSupervision_ctl : (stopSupervision s).ctl = s.ctl := rfl

@[simp] theorem stopSupervision_sens : (stopSupervision s).sens = s.sens := rfl

@[simp] theorem stopSupervision_chan : (stopSupervision s).chan = s.chan := rfl

@[simp] theorem stopSupervision_bud : (stopSupervision s).bud = s.bud := rfl

@[simp] theorem stopSupervision_link : (stopSupervision s).link = s.link := rfl

@[simp] theorem stopSupervision_pass : (stopSupervision s).pass = s.pass := rfl

@[simp] theorem stopSupervision_keys : (stopSupervision s).keys = s.keys := rfl

@[simp] theorem stopSupervision_note : (stopSupervision s).note = s.note := rfl

@[simp] theorem stopSupervision_store : (stopSupervision s).store = s.store := rfl

@[simp] theorem stopSupervision_cfg : (stopSupervision s).cfg = s.cfg := rfl

@[simp] theorem stopSupervision_pending : (stopSupervision s).pending = s.pending := rfl

@[simp] theorem stopSupervision_pace : (stopSupervision s).pace = s.pace := rfl

@[simp] theorem stopSupervision_draw : (stopSupervision s).draw = s.draw := rfl

/-! ### startSupplyFilter -/

@[simp] theorem startSupplyFilter_powered : (startSupplyFilter s).powered = s.powered := rfl

@[simp] theorem startSupplyFilter_clock : (startSupplyFilter s).clock = s.clock := rfl

@[simp] theorem startSupplyFilter_pins : (startSupplyFilter s).pins = s.pins := rfl

@[simp] theorem startSupplyFilter_lines : (startSupplyFilter s).lines = s.lines := rfl

@[simp] theorem startSupplyFilter_sens : (startSupplyFilter s).sens = s.sens := rfl

@[simp] theorem startSupplyFilter_chan : (startSupplyFilter s).chan = s.chan := rfl

@[simp] theorem startSupplyFilter_bud : (startSupplyFilter s).bud = s.bud := rfl

@[simp] theorem startSupplyFilter_link : (startSupplyFilter s).link = s.link := rfl

@[simp] theorem startSupplyFilter_pass : (startSupplyFilter s).pass = s.pass := rfl

@[simp] theorem startSupplyFilter_sup : (startSupplyFilter s).sup = s.sup := rfl

@[simp] theorem startSupplyFilter_keys : (startSupplyFilter s).keys = s.keys := rfl

@[simp] theorem startSupplyFilter_note : (startSupplyFilter s).note = s.note := rfl

@[simp] theorem startSupplyFilter_store : (startSupplyFilter s).store = s.store := rfl

@[simp] theorem startSupplyFilter_cfg : (startSupplyFilter s).cfg = s.cfg := rfl

@[simp] theorem startSupplyFilter_pending : (startSupplyFilter s).pending = s.pending := rfl

@[simp] theorem startSupplyFilter_pace : (startSupplyFilter s).pace = s.pace := rfl

@[simp] theorem startSupplyFilter_draw : (startSupplyFilter s).draw = s.draw := rfl

/-! ### formReadings -/

@[simp] theorem formReadings_powered : (formReadings s).powered = s.powered := rfl

@[simp] theorem formReadings_clock : (formReadings s).clock = s.clock := rfl

@[simp] theorem formReadings_pins : (formReadings s).pins = s.pins := rfl

@[simp] theorem formReadings_lines : (formReadings s).lines = s.lines := rfl

@[simp] theorem formReadings_ctl : (formReadings s).ctl = s.ctl := rfl

@[simp] theorem formReadings_chan : (formReadings s).chan = s.chan := rfl

@[simp] theorem formReadings_bud : (formReadings s).bud = s.bud := rfl

@[simp] theorem formReadings_link : (formReadings s).link = s.link := rfl

@[simp] theorem formReadings_pass : (formReadings s).pass = s.pass := rfl

@[simp] theorem formReadings_sup : (formReadings s).sup = s.sup := rfl

@[simp] theorem formReadings_keys : (formReadings s).keys = s.keys := rfl

@[simp] theorem formReadings_note : (formReadings s).note = s.note := rfl

@[simp] theorem formReadings_store : (formReadings s).store = s.store := rfl

@[simp] theorem formReadings_cfg : (formReadings s).cfg = s.cfg := rfl

@[simp] theorem formReadings_pending : (formReadings s).pending = s.pending := rfl

@[simp] theorem formReadings_pace : (formReadings s).pace = s.pace := rfl

@[simp] theorem formReadings_draw : (formReadings s).draw = s.draw := rfl

/-! ### Equality of states -/

/-- Two states that agree field by field are equal. -/
theorem State.ext_fields {a b : State}
    (h_powered : a.powered = b.powered)
    (h_clock : a.clock = b.clock)
    (h_pins : a.pins = b.pins)
    (h_lines : a.lines = b.lines)
    (h_ctl : a.ctl = b.ctl)
    (h_sens : a.sens = b.sens)
    (h_chan : a.chan = b.chan)
    (h_bud : a.bud = b.bud)
    (h_link : a.link = b.link)
    (h_pass : a.pass = b.pass)
    (h_sup : a.sup = b.sup)
    (h_keys : a.keys = b.keys)
    (h_note : a.note = b.note)
    (h_store : a.store = b.store)
    (h_cfg : a.cfg = b.cfg)
    (h_pending : a.pending = b.pending)
    (h_pace : a.pace = b.pace)
    (h_draw : a.draw = b.draw) : a = b := by
  cases a
  cases b
  simp_all

/-! ### What an update puts in -/

@[simp] theorem portOf_setPort (p : PortId) (x : Port) : portOf p (setPort p x s) = x := by cases p <;> rfl

@[simp] theorem portOf_setPort_c_b (x : Port) : portOf .c (setPort .b x s) = s.link.c := rfl

@[simp] theorem portOf_setPort_b_c (x : Port) : portOf .b (setPort .c x s) = s.link.b := rfl

@[simp] theorem setPort_portOf (p : PortId) : setPort p (portOf p s) s = s := by cases p <;> rfl

@[simp] theorem setPort_setPort (p : PortId) (x y : Port) : setPort p y (setPort p x s) = setPort p y s := by cases p <;> rfl

@[simp] theorem setPort_down (p : PortId) (x : Port) : (setPort p x s).link.down = s.link.down := by cases p <;> rfl

@[simp] theorem setPort_up (p : PortId) (x : Port) : (setPort p x s).link.up = s.link.up := by cases p <;> rfl

@[simp] theorem setPort_rateHigh (p : PortId) (x : Port) : (setPort p x s).link.rateHigh = s.link.rateHigh := by cases p <;> rfl

@[simp] theorem channelOf_setChannel (c : ChannelId) (x : Channel) : channelOf c (setChannel c x s) = x := by cases c <;> rfl

theorem channelOf_setChannel_ne (c o : ChannelId) (x : Channel) (h : o ≠ c) : channelOf o (setChannel c x s) = channelOf o s := by
  cases c <;> cases o <;> first | rfl | exact absurd rfl h

@[simp] theorem setChannel_channelOf (c : ChannelId) : setChannel c (channelOf c s) s = s := by cases c <;> rfl

@[simp] theorem heaterOf_setHeater (h : HeaterId) (x : Heater) : heaterOf h (setHeater h x s) = x := by cases h <;> rfl

theorem heaterOf_setHeater_ne (h o : HeaterId) (x : Heater) (n : o ≠ h) : heaterOf o (setHeater h x s) = heaterOf o s := by
  cases h <;> cases o <;> first | rfl | exact absurd rfl n

@[simp] theorem setHeater_heaterOf (h : HeaterId) : setHeater h (heaterOf h s) s = s := by cases h <;> rfl

@[simp] theorem channelOf_heaterChannel (h : HeaterId) : channelOf (heaterChannel h) s = (heaterOf h s).ch := by cases h <;> rfl

@[simp] theorem sensorOf_setSensor (i : SensorId) (x : Sensor) : sensorOf i (setSensor i x s) = x := by cases i <;> rfl

theorem sensorOf_setSensor_ne (i j : SensorId) (x : Sensor) (h : j ≠ i) : sensorOf j (setSensor i x s) = sensorOf j s := by
  cases i <;> cases j <;> first | rfl | exact absurd rfl h

@[simp] theorem setUp_up (q : List UpFrame) : (setUp q s).link.up = q := rfl

@[simp] theorem setUp_down (q : List UpFrame) : (setUp q s).link.down = s.link.down := rfl

@[simp] theorem setDown_down (q : List DownFrame) : (setDown q s).link.down = q := rfl

@[simp] theorem setDown_up (q : List DownFrame) : (setDown q s).link.up = s.link.up := rfl

@[simp] theorem countOn_up (p : PortId) (f : Counters → Counters) : (countOn p f s).link.up = s.link.up := by cases p <;> rfl

@[simp] theorem countOn_down (p : PortId) (f : Counters → Counters) : (countOn p f s).link.down = s.link.down := by cases p <;> rfl

@[simp] theorem raise_pending_bits (c : Cause) : (raise c s).note.pending = s.note.pending ||| causeBit c := rfl

@[simp] theorem raise_outstanding (c : Cause) : (raise c s).note.outstanding = s.note.outstanding := rfl

@[simp] theorem raise_statusPart2 (c : Cause) : (raise c s).note.statusPart2 = s.note.statusPart2 := rfl

end Sys2Proof.Machine
end

