-- ==== Sys2Proof/Laws/Allocation.lean ====
section
/-! SUPPORT. What an allocation can do: everything it changes is what `State.allocatedAs` names, its record is the outcome of the stages, and the
grants are the duties. -/

namespace Sys2Proof.Machine

/-! ## The switches -/

/-- A heater's switch and measurements judged again: everything that can change. -/
theorem syncHeater_eq (h : HeaterId) (s : State) :
    syncHeater h s = setHeater h
      { heaterOf h (syncHeater h s) with
        base := (heaterOf h s).base
        ch := { (heaterOf h s).ch with
          on := (heaterOf h (syncHeater h s)).ch.on, overFrom := (heaterOf h (syncHeater h s)).ch.overFrom } } s := by
  cases h <;> rfl

/-- The fan drive and its measurements judged again: everything that can change. -/
theorem syncFan_eq (s : State) :
    syncFan s = { s with chan.fan := { s.chan.fan with
      ch := { s.chan.fan.ch with on := (syncFan s).chan.fan.ch.on, overFrom := (syncFan s).chan.fan.ch.overFrom }
      stallFrom := (syncFan s).chan.fan.stallFrom } } := rfl

/-- The switches judged again: whether each conducts and the measurements that go by it, and nothing else. -/
theorem syncSwitches_eq (s : State) : syncSwitches s = s.switchedAs (syncSwitches s) := rfl

/-- The switches judged again leave the duties. -/
@[simp] theorem syncSwitches_applied (c : ChannelId) (s : State) : (channelOf c (syncSwitches s)).applied = (channelOf c s).applied := by
  cases c <;> rfl

/-- The switches judged again leave the channel states. -/
@[simp] theorem syncSwitches_state (c : ChannelId) (s : State) : (channelOf c (syncSwitches s)).state = (channelOf c s).state := by
  cases c <;> rfl

/-! ## Level frames -/

/-- A level frame of the record's own: everything it can change (R69). -/
theorem sendLevel_eq (s : State) :
    sendLevel s = { s with
      bud.back := { (sendLevel s).bud.back with
        lReq := s.bud.back.lReq, template := s.bud.back.template, levelOffset := s.bud.back.levelOffset, ceiling := s.bud.back.ceiling
        unenforced := s.bud.back.unenforced }
      link.down := (sendLevel s).link.down
      link.b.stallFrom := (sendLevel s).link.b.stallFrom
      link.b.counters.stallDiscard := (sendLevel s).link.b.counters.stallDiscard } := by
  rcases Option.eq_none_or_eq_some s.bud.back.template with ht | ⟨f, ht⟩
  · have e : sendLevel s = s := by simp only [sendLevel, ht]
    rw [e]
  · by_cases hd : levelDue s.bud.back = true
    · by_cases hs : (supersede s).link.b.stalled = true
      · have e : sendLevel s = { countOn .b (Counters.addStallDiscard 1) (supersede s) with bud.back.resend := true } := by
          simp only [sendLevel, ht, hd, offerDown, hs, if_true, Bool.false_eq_true, if_false]
        rw [e]
        rfl
      · by_cases hl : (supersede s).link.down.length < 8
        · have e : sendLevel s =
              { setDown ((supersede s).link.down ++
                  [{ frame := withLevel f (s.bud.back.levelOffset.getD 0) s.bud.back.ceiling, mark := .own }]) (supersede s) with
                bud.back.lFwd := s.bud.back.ceiling, bud.back.resend := false
                bud.back.clamped := decide (s.bud.back.ceiling < s.bud.back.lReq) } := by
            simp only [sendLevel, ht, hd, offerDown, hs, hl, if_true, Bool.false_eq_true, if_false]
          rw [e]
          rfl
        · have e : sendLevel s = { supersede s with bud.back.resend := true } := by
            simp only [sendLevel, ht, hd, offerDown, hs, hl, if_true, Bool.false_eq_true, if_false]
          rw [e]
          rfl
    · have e : sendLevel s = s := by simp only [sendLevel, ht, hd, Bool.false_eq_true, if_false]
      rw [e]

/-- The limited run counted: everything it can change (R66). -/
theorem countLimited_eq (b : Bool) (s : State) :
    countLimited b s = { s with
      bud.limitedRun := (countLimited b s).bud.limitedRun
      note.pending := s.note.pending ||| ((countLimited b s).note.pending &&& causeBit .budgetLimited) } := by
  have self (p : BitVec 13) : p ||| (p &&& causeBit .budgetLimited) = p := by
    ext i
    simp
    grind
  have more (p : BitVec 13) : p ||| ((p ||| causeBit .budgetLimited) &&& causeBit .budgetLimited) = p ||| causeBit .budgetLimited := by
    ext i
    simp
    grind
  have key (c : Bool) (n : Nat) :
      raiseIf c .budgetLimited { s with bud.limitedRun := n } =
        { s with
          bud.limitedRun := (raiseIf c .budgetLimited { s with bud.limitedRun := n }).bud.limitedRun
          note.pending :=
            s.note.pending ||| ((raiseIf c .budgetLimited { s with bud.limitedRun := n }).note.pending &&& causeBit .budgetLimited) } := by
    cases c
    · simp only [raiseIf, Bool.false_eq_true, if_false, self]
    · simp only [raiseIf, raise, if_true, more]
  exact key _ _

/-! ## The fields they leave -/

@[simp] theorem sendLevel_powered (s : State) : (sendLevel s).powered = s.powered :=
  congrArg (fun t => t.powered) (sendLevel_eq s)

@[simp] theorem sendLevel_clock (s : State) : (sendLevel s).clock = s.clock :=
  congrArg (fun t => t.clock) (sendLevel_eq s)

@[simp] theorem sendLevel_pins (s : State) : (sendLevel s).pins = s.pins :=
  congrArg (fun t => t.pins) (sendLevel_eq s)

@[simp] theorem sendLevel_lines (s : State) : (sendLevel s).lines = s.lines :=
  congrArg (fun t => t.lines) (sendLevel_eq s)

@[simp] theorem sendLevel_ctl (s : State) : (sendLevel s).ctl = s.ctl :=
  congrArg (fun t => t.ctl) (sendLevel_eq s)

@[simp] theorem sendLevel_sens (s : State) : (sendLevel s).sens = s.sens :=
  congrArg (fun t => t.sens) (sendLevel_eq s)

@[simp] theorem sendLevel_chan (s : State) : (sendLevel s).chan = s.chan :=
  congrArg (fun t => t.chan) (sendLevel_eq s)

@[simp] theorem sendLevel_pass (s : State) : (sendLevel s).pass = s.pass :=
  congrArg (fun t => t.pass) (sendLevel_eq s)

@[simp] theorem sendLevel_sup (s : State) : (sendLevel s).sup = s.sup :=
  congrArg (fun t => t.sup) (sendLevel_eq s)

@[simp] theorem sendLevel_keys (s : State) : (sendLevel s).keys = s.keys :=
  congrArg (fun t => t.keys) (sendLevel_eq s)

@[simp] theorem sendLevel_note (s : State) : (sendLevel s).note = s.note :=
  congrArg (fun t => t.note) (sendLevel_eq s)

@[simp] theorem sendLevel_store (s : State) : (sendLevel s).store = s.store :=
  congrArg (fun t => t.store) (sendLevel_eq s)

@[simp] theorem sendLevel_cfg (s : State) : (sendLevel s).cfg = s.cfg :=
  congrArg (fun t => t.cfg) (sendLevel_eq s)

@[simp] theorem sendLevel_pending (s : State) : (sendLevel s).pending = s.pending :=
  congrArg (fun t => t.pending) (sendLevel_eq s)

@[simp] theorem sendLevel_pace (s : State) : (sendLevel s).pace = s.pace :=
  congrArg (fun t => t.pace) (sendLevel_eq s)

@[simp] theorem sendLevel_draw (s : State) : (sendLevel s).draw = s.draw :=
  congrArg (fun t => t.draw) (sendLevel_eq s)

@[simp] theorem sendLevel_last (s : State) : (sendLevel s).bud.last = s.bud.last :=
  congrArg (fun t => t.bud.last) (sendLevel_eq s)

@[simp] theorem sendLevel_ceiling (s : State) : (sendLevel s).bud.back.ceiling = s.bud.back.ceiling :=
  congrArg (fun t => t.bud.back.ceiling) (sendLevel_eq s)

@[simp] theorem sendLevel_up (s : State) : (sendLevel s).link.up = s.link.up :=
  congrArg (fun t => t.link.up) (sendLevel_eq s)

@[simp] theorem sendLevel_portC (s : State) : (sendLevel s).link.c = s.link.c :=
  congrArg (fun t => t.link.c) (sendLevel_eq s)

@[simp] theorem countLimited_powered (b : Bool) (s : State) : (countLimited b s).powered = s.powered :=
  congrArg (fun t => t.powered) (countLimited_eq b s)

@[simp] theorem countLimited_clock (b : Bool) (s : State) : (countLimited b s).clock = s.clock :=
  congrArg (fun t => t.clock) (countLimited_eq b s)

@[simp] theorem countLimited_pins (b : Bool) (s : State) : (countLimited b s).pins = s.pins :=
  congrArg (fun t => t.pins) (countLimited_eq b s)

@[simp] theorem countLimited_lines (b : Bool) (s : State) : (countLimited b s).lines = s.lines :=
  congrArg (fun t => t.lines) (countLimited_eq b s)

@[simp] theorem countLimited_ctl (b : Bool) (s : State) : (countLimited b s).ctl = s.ctl :=
  congrArg (fun t => t.ctl) (countLimited_eq b s)

@[simp] theorem countLimited_sens (b : Bool) (s : State) : (countLimited b s).sens = s.sens :=
  congrArg (fun t => t.sens) (countLimited_eq b s)

@[simp] theorem countLimited_chan (b : Bool) (s : State) : (countLimited b s).chan = s.chan :=
  congrArg (fun t => t.chan) (countLimited_eq b s)

@[simp] theorem countLimited_link (b : Bool) (s : State) : (countLimited b s).link = s.link :=
  congrArg (fun t => t.link) (countLimited_eq b s)

@[simp] theorem countLimited_pass (b : Bool) (s : State) : (countLimited b s).pass = s.pass :=
  congrArg (fun t => t.pass) (countLimited_eq b s)

@[simp] theorem countLimited_sup (b : Bool) (s : State) : (countLimited b s).sup = s.sup :=
  congrArg (fun t => t.sup) (countLimited_eq b s)

@[simp] theorem countLimited_keys (b : Bool) (s : State) : (countLimited b s).keys = s.keys :=
  congrArg (fun t => t.keys) (countLimited_eq b s)

@[simp] theorem countLimited_store (b : Bool) (s : State) : (countLimited b s).store = s.store :=
  congrArg (fun t => t.store) (countLimited_eq b s)

@[simp] theorem countLimited_cfg (b : Bool) (s : State) : (countLimited b s).cfg = s.cfg :=
  congrArg (fun t => t.cfg) (countLimited_eq b s)

@[simp] theorem countLimited_pending (b : Bool) (s : State) : (countLimited b s).pending = s.pending :=
  congrArg (fun t => t.pending) (countLimited_eq b s)

@[simp] theorem countLimited_pace (b : Bool) (s : State) : (countLimited b s).pace = s.pace :=
  congrArg (fun t => t.pace) (countLimited_eq b s)

@[simp] theorem countLimited_draw (b : Bool) (s : State) : (countLimited b s).draw = s.draw :=
  congrArg (fun t => t.draw) (countLimited_eq b s)

@[simp] theorem countLimited_last (b : Bool) (s : State) : (countLimited b s).bud.last = s.bud.last :=
  congrArg (fun t => t.bud.last) (countLimited_eq b s)

@[simp] theorem countLimited_back (b : Bool) (s : State) : (countLimited b s).bud.back = s.bud.back :=
  congrArg (fun t => t.bud.back) (countLimited_eq b s)

/-! ## The whole allocation -/

/-- The record of the last allocation is the outcome of the stages on what was offered (R61 to R65). -/
theorem allocate_last (r : Bool) (s : State) : (allocate r s).bud.last = allocationOf (allocInputOf r (offerDemands s)) :=
  (sendLevel_last _).trans (countLimited_last ..)

/-- The ceiling in force is that of the last allocation (R64). -/
theorem allocate_ceiling (r : Bool) (s : State) : (allocate r s).bud.back.ceiling = (allocate r s).bud.last.ceiling := by
  rw [allocate_last]
  exact (sendLevel_ceiling _).trans (congrArg Backlight.ceiling (countLimited_back ..))

/-- The channels after an allocation: the demands offered, the grants applied, the switches judged again (R40 to R44). -/
theorem allocate_chan (r : Bool) (s : State) :
    (allocate r s).chan =
      (syncSwitches (applyGrants (allocationOf (allocInputOf r (offerDemands s))) (offerDemands s))).chan :=
  (sendLevel_chan _).trans (countLimited_chan ..)

/-- The grants are the duties (R42). -/
theorem allocate_grants (r : Bool) (s : State) : GrantsApplied (allocate r s) := by
  unfold GrantsApplied
  rw [allocate_chan, allocate_last]
  exact ⟨rfl, rfl, rfl⟩

/-! ## What an allocation leaves -/

@[simp] theorem allocate_ctl (r : Bool) (s : State) : (allocate r s).ctl = s.ctl := by
  simp [allocate, judgeUnenforced, applyGrants, offerDemands, syncSwitches]

@[simp] theorem allocate_lines (r : Bool) (s : State) : (allocate r s).lines = s.lines := by
  simp [allocate, judgeUnenforced, applyGrants, offerDemands, syncSwitches]

@[simp] theorem allocate_clock (r : Bool) (s : State) : (allocate r s).clock = s.clock := by
  simp [allocate, judgeUnenforced, applyGrants, offerDemands, syncSwitches]

@[simp] theorem allocate_pins (r : Bool) (s : State) : (allocate r s).pins = s.pins := by
  simp [allocate, judgeUnenforced, applyGrants, offerDemands, syncSwitches]

@[simp] theorem allocate_sens (r : Bool) (s : State) : (allocate r s).sens = s.sens := by
  simp [allocate, judgeUnenforced, applyGrants, offerDemands, syncSwitches]

@[simp] theorem allocate_sup (r : Bool) (s : State) : (allocate r s).sup = s.sup := by
  simp [allocate, judgeUnenforced, applyGrants, offerDemands, syncSwitches]

@[simp] theorem allocate_keys (r : Bool) (s : State) : (allocate r s).keys = s.keys := by
  simp [allocate, judgeUnenforced, applyGrants, offerDemands, syncSwitches]

@[simp] theorem allocate_pass (r : Bool) (s : State) : (allocate r s).pass = s.pass := by
  simp [allocate, judgeUnenforced, applyGrants, offerDemands, syncSwitches]

@[simp] theorem allocate_store (r : Bool) (s : State) : (allocate r s).store = s.store := by
  simp [allocate, judgeUnenforced, applyGrants, offerDemands, syncSwitches]

@[simp] theorem allocate_cfg (r : Bool) (s : State) : (allocate r s).cfg = s.cfg := by
  simp [allocate, judgeUnenforced, applyGrants, offerDemands, syncSwitches]

@[simp] theorem allocate_powered (r : Bool) (s : State) : (allocate r s).powered = s.powered := by
  simp [allocate, judgeUnenforced, applyGrants, offerDemands, syncSwitches]

@[simp] theorem allocate_queue (r : Bool) (s : State) : (allocate r s).pending = s.pending := by
  simp [allocate, judgeUnenforced, applyGrants, offerDemands, syncSwitches]

@[simp] theorem allocate_pace (r : Bool) (s : State) : (allocate r s).pace = s.pace := by
  simp [allocate, judgeUnenforced, applyGrants, offerDemands, syncSwitches]

@[simp] theorem allocate_draw (r : Bool) (s : State) : (allocate r s).draw = s.draw := by
  simp [allocate, judgeUnenforced, applyGrants, offerDemands, syncSwitches]

@[simp] theorem allocate_up (r : Bool) (s : State) : (allocate r s).link.up = s.link.up := by
  simp [allocate, judgeUnenforced, applyGrants, offerDemands, syncSwitches]

@[simp] theorem allocate_portC (r : Bool) (s : State) : (allocate r s).link.c = s.link.c := by
  simp [allocate, judgeUnenforced, applyGrants, offerDemands, syncSwitches]

/-- The state before the level frame is sent, at an allocation: everything the budget unit and the notice unit have changed by then. -/
theorem allocate_via (r : Bool) (s : State) : ∃ X : State,
    allocate r s = judgeUnenforced (sendLevel X) ∧ X.link = s.link
    ∧ X.bud = { s.bud with
        last := X.bud.last, limitedRun := X.bud.limitedRun, back := { s.bud.back with ceiling := X.bud.back.ceiling } }
    ∧ X.note = { s.note with pending := s.note.pending ||| (X.note.pending &&& causeBit .budgetLimited) } := by
  refine ⟨_, rfl, ?_, ?_, ?_⟩
  · simp [syncSwitches, applyGrants, offerDemands]
  · rw [countLimited_eq]
    simp [syncSwitches, applyGrants, offerDemands]
  · exact congrArg (fun t => t.note) (countLimited_eq _ _)

/-- Everything an allocation can change is what `State.allocatedAs` names. -/
theorem allocate_allocatedAs (r : Bool) (s : State) : allocate r s = s.allocatedAs (allocate r s) := by
  have hchan : (allocate r s).chan = (s.allocatedAs (allocate r s)).chan := by
    simp only [State.allocatedAs, allocate_chan]
    rfl
  obtain ⟨X, e, hl, hb, hn⟩ := allocate_via r s
  have hbud : (allocate r s).bud = (s.allocatedAs (allocate r s)).bud := by
    have hs := congrArg (fun t => t.bud) (sendLevel_eq X)
    rw [e]
    simp only [State.allocatedAs, judgeUnenforced]
    rw [hs, hb]
  have hlink : (allocate r s).link = (s.allocatedAs (allocate r s)).link := by
    have hs := congrArg (fun t => t.link) (sendLevel_eq X)
    rw [e]
    simp only [State.allocatedAs, judgeUnenforced]
    rw [hs, hl]
  have hnote : (allocate r s).note = (s.allocatedAs (allocate r s)).note := by
    rw [e]
    simp only [State.allocatedAs, judgeUnenforced, sendLevel_note]
    rw [hn]
    simp only [NoticeUnit.mk.injEq, and_true]
    ext i
    simp
    grind
  exact State.ext_fields (allocate_powered r s) (allocate_clock r s) (allocate_pins r s) (allocate_lines r s) (allocate_ctl r s)
    (allocate_sens r s) hchan hbud hlink (allocate_pass r s) (allocate_sup r s) (allocate_keys r s) hnote (allocate_store r s)
    (allocate_cfg r s) (allocate_queue r s) (allocate_pace r s) (allocate_draw r s)

/-- An allocation leaves the notice-outstanding flag; of the notice unit it can only make BUDGET_LIMITED pending. -/
@[simp] theorem allocate_outstanding (r : Bool) (s : State) : (allocate r s).note.outstanding = s.note.outstanding :=
  congrArg (fun t => t.note.outstanding) (allocate_allocatedAs r s)

/-- An allocation leaves the status part pointer. -/
@[simp] theorem allocate_statusPart2 (r : Bool) (s : State) : (allocate r s).note.statusPart2 = s.note.statusPart2 :=
  congrArg (fun t => t.note.statusPart2) (allocate_allocatedAs r s)

/-! ## What an allocation reads -/

/-- Two states that agree in all that an allocation reads. -/
def SameToAllocate (s u : State) : Prop :=
  u.clock.now = s.clock.now ∧ u.pins = s.pins ∧ u.ctl.phase = s.ctl.phase ∧ u.sens = s.sens ∧ u.chan = s.chan ∧ u.bud = s.bud
  ∧ u.link.down = s.link.down ∧ u.link.b = s.link.b ∧ u.note.pending = s.note.pending ∧ u.cfg = s.cfg

/-- Two states that agree in all that an allocation changes. -/
def SameAllocated (s u : State) : Prop :=
  u.chan = s.chan ∧ u.bud = s.bud ∧ u.link.down = s.link.down ∧ u.link.b = s.link.b ∧ u.note.pending = s.note.pending

/-- A level frame of the record's own depends on the backlight record, the downstream queue and the B-port alone (R69). -/
theorem sendLevel_reads {s u : State} (h : SameToAllocate s u) : SameAllocated (sendLevel s) (sendLevel u) := by
  obtain ⟨hn, hp, -, -, hc, hb, hd, hl, hq, -⟩ := h
  have hpin : u.pins.rdyB = s.pins.rdyB := by rw [hp]
  rcases ht : s.bud.back.template with _ | f
  · simp [sendLevel, ht, hb, SameAllocated, hc, hd, hl, hq]
  · rcases hdue : levelDue s.bud.back with _ | _
    · simp [sendLevel, ht, hb, hdue, SameAllocated, hc, hd, hl, hq]
    · rcases hst : s.link.b.stalled with _ | _
      · by_cases hlen : (s.link.down.filter fun f => f.mark != .own).length < 8 <;>
          simp [sendLevel, ht, hb, hdue, SameAllocated, offerDown, supersede, setDown, syncStall, setPort, portOf, holdsFrame, rdyIn,
            hst, hlen, hn, hpin, hc, hd, hl, hq]
      · simp [sendLevel, ht, hb, hdue, SameAllocated, offerDown, supersede, setDown, syncStall, setPort, portOf, holdsFrame, rdyIn,
          countOn, hst, hn, hpin, hc, hd, hl, hq]

/-- The limited run depends on the budget unit and the pending flags alone (R66). -/
theorem countLimited_reads (b : Bool) {s u : State} (h : SameToAllocate s u) :
    SameToAllocate (countLimited b s) (countLimited b u) := by
  obtain ⟨hn, hp, hph, hs, hc, hb, hd, hl, hq, hcfg⟩ := h
  simp only [countLimited, hb]
  generalize (if b then satInc 60 s.bud.limitedRun else 0) = n
  rcases hr : (n == 60 && s.bud.limitedRun != 60) with _ | _ <;>
    simp [raiseIf, raise, SameToAllocate, hn, hp, hph, hs, hc, hd, hl, hq, hcfg]

/-- The demands depend on what an allocation reads alone (R40, R41, R44). -/
theorem offerDemands_reads {s u : State} (h : SameToAllocate s u) : SameToAllocate (offerDemands s) (offerDemands u) := by
  obtain ⟨hn, hp, hph, hs, hc, hb, hd, hl, hq, hcfg⟩ := h
  simp only [SameToAllocate, offerDemands, hn, hp, hph, hs, hc, hb, hd, hl, hq, hcfg, and_self]

/-- The grants applied depend on the channels alone (R42). -/
theorem applyGrants_reads (a : Allocation) {s u : State} (h : SameToAllocate s u) : SameToAllocate (applyGrants a s) (applyGrants a u) := by
  obtain ⟨hn, hp, hph, hs, hc, hb, hd, hl, hq, hcfg⟩ := h
  simp only [SameToAllocate, applyGrants, hn, hp, hph, hs, hc, hb, hd, hl, hq, hcfg, and_self]

/-- The switches depend on the channels, the comparators and the period alone (R43). -/
theorem syncSwitches_reads {s u : State} (h : SameToAllocate s u) : SameToAllocate (syncSwitches s) (syncSwitches u) := by
  have heater (i : HeaterId) {s u : State} (h : SameToAllocate s u) : SameToAllocate (syncHeater i s) (syncHeater i u) := by
    obtain ⟨hn, hp, hph, hs, hc, hb, hd, hl, hq, hcfg⟩ := h
    cases i <;>
      simp only [SameToAllocate, syncHeater, setHeater, heaterOf, senseOf, hn, hp, hph, hs, hc, hb, hd, hl, hq, hcfg, and_self]
  obtain ⟨hn, hp, hph, hs, hc, hb, hd, hl, hq, hcfg⟩ := heater .h1 (heater .h0 h)
  simp only [SameToAllocate, syncSwitches, syncFan, hn, hp, hph, hs, hc, hb, hd, hl, hq, hcfg, and_self]

/-- An allocation depends on what `SameToAllocate` names alone (R61). -/
theorem allocate_reads (r : Bool) {s u : State} (h : SameToAllocate s u) : SameAllocated (allocate r s) (allocate r u) := by
  have ho := offerDemands_reads h
  have hi : allocInputOf r (offerDemands u) = allocInputOf r (offerDemands s) := by
    obtain ⟨-, -, -, -, hc, hb, -, -, -, hcfg⟩ := ho
    simp only [allocInputOf, hc, hb, hcfg]
  have recorded (a : Allocation) {s u : State} (h : SameToAllocate s u) : SameToAllocate
      { s with bud.last := a, bud.back.ceiling := a.ceiling } { u with bud.last := a, bud.back.ceiling := a.ceiling } := by
    obtain ⟨hn, hp, hph, hs, hc, hb, hd, hl, hq, hcfg⟩ := h
    simp only [SameToAllocate, hn, hp, hph, hs, hc, hb, hd, hl, hq, hcfg, and_self]
  obtain ⟨kc, kb, kd, kl, kq⟩ := sendLevel_reads <|
    countLimited_reads (isLimited (allocInputOf r (offerDemands s))) <|
      recorded (allocationOf (allocInputOf r (offerDemands s))) <|
        syncSwitches_reads (applyGrants_reads (allocationOf (allocInputOf r (offerDemands s))) ho)
  simp only [SameAllocated, allocate, judgeUnenforced, hi]
  simp only [kc, kb, kd, kl, kq, and_self]

end Sys2Proof.Machine
end

