-- ==== Sys2Proof/Laws/Clock.lean ====
section
/-! SUPPORT. What falls due by itself, block by block, and the span an idle step lets pass. -/

namespace Sys2Proof.Machine

/-! ## The span of an idle step -/

/-- The span is at most the pace. -/
theorem spanToNext_le_pace (now pace : Nat) (l : List (Nat × Instr)) : spanToNext now pace l ≤ pace := by
  unfold spanToNext
  induction l generalizing pace with
  | nil => exact Nat.le_refl _
  | cons a l ih => exact (ih _).trans (Nat.min_le_left ..)

/-- The span is at most the time left to each alarm. -/
theorem spanToNext_le {now pace : Nat} {l : List (Nat × Instr)} {a : Nat × Instr} (h : a ∈ l) : spanToNext now pace l ≤ a.1 - now := by
  unfold spanToNext
  induction l generalizing pace with
  | nil => cases h
  | cons b l ih =>
    rcases List.mem_cons.mp h with rfl | h
    · exact (spanToNext_le_pace now (min pace (a.1 - now)) l).trans (Nat.min_le_right ..)
    · exact ih h

/-- The span is the pace, or the time left to some alarm. -/
theorem spanToNext_eq (now pace : Nat) (l : List (Nat × Instr)) :
    spanToNext now pace l = pace ∨ ∃ a ∈ l, spanToNext now pace l = a.1 - now := by
  unfold spanToNext
  induction l generalizing pace with
  | nil => exact .inl rfl
  | cons b l ih =>
    rcases ih (min pace (b.1 - now)) with h | ⟨a, m, h⟩
    · rcases Nat.le_total pace (b.1 - now) with k | k
      · exact .inl (by rw [List.foldl_cons, h, Nat.min_eq_left k])
      · exact .inr ⟨b, List.mem_cons_self .., by rw [List.foldl_cons, h, Nat.min_eq_right k]⟩
    · exact .inr ⟨a, List.mem_cons_of_mem _ m, h⟩

/-! ## The order of rows that fall due together -/

/-- A row put at a place is one row more. -/
theorem putAt_perm (c : Instr) (n : Nat) (l : List Instr) : (putAt c n l).Perm (c :: l) := by
  induction l generalizing n with
  | nil => cases n <;> exact .refl _
  | cons x l ih =>
    cases n with
    | zero => exact .refl _
    | succ n => exact ((ih n).cons x).trans (.swap ..)

/-- Whatever the order drawn, the rows are the same. -/
theorem arrange_perm (draw : Nat) (l : List Instr) : (arrange draw l).Perm l := by
  induction l with
  | nil => exact .refl _
  | cons c l ih => exact (putAt_perm ..).trans (ih.cons c)

/-! ## The alarms -/

/-- The row of a timer. -/
theorem mem_dueAfter (start : Option Nat) (span : Nat) (c : Instr) (n : Nat) (d : Instr) :
    (n, d) ∈ dueAfter start span c ↔ d = c ∧ ∃ t, start = some t ∧ n = t + span := by
  cases start <;> simp [dueAfter, and_comm]

/-- A row that falls due under a condition. -/
theorem mem_dueIf (b : Bool) (m : Nat) (c : Instr) (n : Nat) (d : Instr) : (n, d) ∈ dueIf b m c ↔ d = c ∧ b = true ∧ n = m := by
  cases b <;> simp [dueIf, and_comm]

/-- A timer's row under a condition. -/
theorem mem_dueAfter_if (p : Prop) [Decidable p] (start : Option Nat) (span : Nat) (c : Instr) (n : Nat) (d : Instr) :
    (n, d) ∈ (if p then dueAfter start span c else []) ↔ d = c ∧ p ∧ ∃ t, start = some t ∧ n = t + span := by
  by_cases h : p <;> simp [h, mem_dueAfter]

/-- A timer's row unless a condition holds. -/
theorem mem_dueAfter_unless (p : Prop) [Decidable p] (start : Option Nat) (span : Nat) (c : Instr) (n : Nat) (d : Instr) :
    (n, d) ∈ (if p then [] else dueAfter start span c) ↔ d = c ∧ ¬ p ∧ ∃ t, start = some t ∧ n = t + span := by
  by_cases h : p <;> simp [h, mem_dueAfter]

/-- One of two timers' rows, by a condition. -/
theorem mem_dueAfter_ite (p : Prop) [Decidable p] (x y : Option Nat) (i j : Nat) (c d : Instr) (n : Nat) (e : Instr) :
    (n, e) ∈ (if p then dueAfter x i c else dueAfter y j d) ↔
      (e = c ∧ p ∧ ∃ t, x = some t ∧ n = t + i) ∨ (e = d ∧ ¬ p ∧ ∃ t, y = some t ∧ n = t + j) := by
  by_cases h : p <;> simp [h, mem_dueAfter]

end Sys2Proof.Machine
end

