-- ==== Sys2Proof/Laws/Deliveries.lean ====
section
/-! SUPPORT. What the operations on the upstream queue can do: a frame of the part's own joins it at the end, and the NOTICE and KEY deliveries that
end an event change nothing but what `State.deliveredAs` names, and add at the end of the queue alone. -/

namespace Sys2Proof.Machine

/-! ## Joining the queue -/

/-- The whole effect of a frame of the part's own joining the upstream queue. -/
theorem pushUp_eq (r : Rank) (cls : Byte) (p : List Byte) (s : State) :
    pushUp r cls p s = { s with link.up := s.link.up ++ [upFrame r cls p], link.c.stallFrom := stallFromWhenWaiting s } := by
  rcases h : s.pins.rdyC <;> rcases h' : s.link.c.stalled <;>
    simp [pushUp, setUp, syncStall, setPort, portOf, rdyIn, holdsFrame, keepTimer, stallFromWhenWaiting, upFrame, ownFrame, computerNode,
      ownNode, h, h']

/-- The whole effect of a reply (R143), beside the GOOD count and the arm, which are counted where the frame arrives. -/
theorem reply_eq (cls : Byte) (r : Result) (data : List Byte) (s : State) :
    reply cls r data s =
      { s with link.up := s.link.up ++ [upFrame .reply (cls + 0x80) (r.code :: data)], link.c.stallFrom := stallFromWhenWaiting s } :=
  pushUp_eq ..

/-! ## Frames of the deliveries -/

/-- Taking the delivered fields from a state twice is taking them from the last. -/
@[simp] theorem deliveredAs_deliveredAs (s t u : State) : (s.deliveredAs t).deliveredAs u = s.deliveredAs u := rfl

/-- A state delivered as itself is itself. -/
@[simp] theorem deliveredAs_self (s : State) : s.deliveredAs s = s := rfl

/-- Deliveries made one after the other are deliveries. -/
theorem SameButDeliveries.trans {s t u : State} (h : SameButDeliveries s t) (k : SameButDeliveries t u) : SameButDeliveries s u := by
  unfold SameButDeliveries at *
  rw [k, h]
  rfl

/-- A frame that joins the upstream queue changes what deliveries may. -/
theorem pushUp_deliveries (r : Rank) (cls : Byte) (p : List Byte) (s : State) : SameButDeliveries s (pushUp r cls p s) := by
  rw [pushUp_eq]
  rfl

/-- The NOTICE test: where it is met, a NOTICE at the end of the upstream queue and the flag set, and else nothing (R150). -/
theorem sendNotice_eq (s : State) :
    sendNotice s =
      if noticeDue s then
        { s with
          link.up := s.link.up ++ [upFrame .notice 0xE0 [byte (topCode s), byte (eligible s).length]]
          link.c.stallFrom := stallFromWhenWaiting s
          note.outstanding := true }
      else s := by
  unfold sendNotice
  split
  · rw [pushUp_eq]; rfl
  · rfl

/-- The NOTICE test: everything it can do. -/
theorem sendNotice_deliveries (s : State) : SameButDeliveries s (sendNotice s) := by
  unfold sendNotice
  split
  · rw [pushUp_eq]
    rfl
  · rfl

/-- The NOTICE test adds at the end of the upstream queue. -/
theorem sendNotice_up (s : State) : s.link.up <+: (sendNotice s).link.up := by
  unfold sendNotice
  split
  · rw [pushUp_eq]
    exact List.prefix_append ..
  · exact List.prefix_refl _

/-- The NOTICE test leaves the keypad. -/
theorem sendNotice_keys (s : State) : (sendNotice s).keys = s.keys := by
  unfold sendNotice
  split <;> simp

/-- One delivery: everything it can do. -/
theorem deliverKey_deliveries (s : State) : SameButDeliveries s (deliverKey s) := by
  unfold deliverKey
  split
  · rfl
  · split
    · rw [pushUp_eq]
      unfold resyncTest
      split <;> rfl
    · rfl

/-- One delivery adds at the end of the upstream queue. -/
theorem deliverKey_up (s : State) : s.link.up <+: (deliverKey s).link.up := by
  unfold deliverKey
  split
  · exact List.prefix_refl _
  · split
    · rw [pushUp_eq]
      unfold resyncTest
      split <;> exact List.prefix_append ..
    · exact List.prefix_refl _

/-- Outside RUN nothing is delivered. -/
theorem deliverKey_of_not_run {s : State} (h : s.ctl.phase ≠ .run) : deliverKey s = s := by
  unfold deliverKey
  split
  · rfl
  · simp [keyDue, h]

/-- The deliveries that end an event: everything they can do. -/
theorem settle_deliveries (s : State) : SameButDeliveries s (settle s) :=
  (sendNotice_deliveries s).trans <|
    (deliverKey_deliveries _).trans <| (deliverKey_deliveries _).trans <| (deliverKey_deliveries _).trans (deliverKey_deliveries _)

/-- The deliveries that end an event add at the end of the upstream queue. -/
theorem settle_up (s : State) : s.link.up <+: (settle s).link.up :=
  (sendNotice_up s).trans <|
    (deliverKey_up _).trans <| (deliverKey_up _).trans <| (deliverKey_up _).trans (deliverKey_up _)

/-- Outside RUN an event ends with no delivery. -/
theorem settle_of_not_run {s : State} (h : s.ctl.phase ≠ .run) : settle s = s := by
  have n : sendNotice s = s := by simp [sendNotice, noticeDue, h]
  simp [settle, n, deliverKeys, deliverKey_of_not_run h]

/-! ## The SNAPSHOT's codes -/

/-- Elements with their places, place by place. -/
theorem zipIdx_filterMap {α β : Type} (l : List α) (g : α × Nat → Option β) :
    l.zipIdx.filterMap g = (List.range l.length).filterMap fun p => (l[p]?).bind fun x => g (x, p) := by
  induction l using List.reverseRecOn with
  | nil => rfl
  | append_singleton l a ih =>
    have front : ((List.range l.length).filterMap fun p => ((l ++ [a])[p]?).bind fun x => g (x, p)) =
        (List.range l.length).filterMap fun p => (l[p]?).bind fun x => g (x, p) :=
      List.filterMap_congr fun p hp => by rw [List.getElem?_append_left (List.mem_range.mp hp)]
    simp [List.zipIdx_append, List.range_succ, List.filterMap_append, ih, front, List.filterMap_cons]

/-- The codes of the keys that are down and delivering, position by position (R137). -/
theorem downCodes_eq (s : State) : downCodes s = heldCodes s := by
  unfold downCodes heldCodes
  rw [← List.filterMap_eq_map, ← List.filterMap_eq_filter, List.filterMap_filterMap, zipIdx_filterMap]
  refine List.filterMap_congr fun p _ => ?_
  rcases s.keys.keys[p]? with _ | k
  · rfl
  · rcases k with ⟨_, _, st, _, _, _, _, d, _⟩
    cases st <;> cases d <;> rcases h : s.cfg.keymap[p]? with _ | ent <;> simp [Key.isDown, Option.guard, h]

end Sys2Proof.Machine
end

