-- ==== Sys2Proof/Laws/Commands.lean ====
section
/-! SUPPORT. What the arrival of a command frame can do: taken, it runs on the state with the frame counted and the arm clear, and a reply to it is
`replied`; discarded, nothing of the command happens. -/

namespace Sys2Proof.Machine

/-- The state a command runs on: its frame counted as GOOD, and the restart arm clear (R79, R116). -/
def taken (s : State) : State := { s with link.c.counters.good := min 65535 (s.link.c.counters.good + 1), sup.arm := none }

/-- A command row where the command processor takes commands: the command runs, given whether the arm was armed. -/
theorem whenOn_commandArrives {s : State} (h : TakesCommands s) (act : Bool → State → State) :
    whenOn s (commandArrives act) = .next (act s.sup.arm.isSome (taken s)) := by
  obtain ⟨hp, hr, hu⟩ := h
  simp [whenOn, hp, commandArrives, countOn, setPort, portOf, Counters.incGood, inc16, satInc, hr, handOver, hu, taken]

/-- A command row while PC_RST# is asserted: the frame is counted as discarded in reset and reported (R82). -/
theorem whenOn_commandArrives_in_reset {s : State} (hp : s.powered = true) (hr : s.lines.pcRst = true) (act : Bool → State → State) :
    whenOn s (commandArrives act) = .next (discardInReset (countOn .c Counters.incGood s)) := by
  simp [whenOn, hp, commandArrives, hr]

/-- A reply to a command that is taken (R143). -/
theorem reply_taken (cls : Byte) (r : Result) (data : List Byte) (s : State) :
    reply cls r data (taken s) = replied cls (r.code :: data) s := by
  rw [reply_eq]
  rfl

/-- A refusal of a command that is taken (R143, R144). -/
theorem refuse_taken (cls : Byte) (r : Result) (s : State) : refuse cls r (taken s) = replied cls [r.code] s := reply_taken cls r [] s

/-- The fields a taken command frame leaves. -/
@[simp] theorem taken_ctl (s : State) : (taken s).ctl = s.ctl := rfl

@[simp] theorem taken_cfg (s : State) : (taken s).cfg = s.cfg := rfl

@[simp] theorem taken_clock (s : State) : (taken s).clock = s.clock := rfl

@[simp] theorem taken_note (s : State) : (taken s).note = s.note := rfl

@[simp] theorem taken_keys (s : State) : (taken s).keys = s.keys := rfl

@[simp] theorem taken_store (s : State) : (taken s).store = s.store := rfl

@[simp] theorem taken_chan (s : State) : (taken s).chan = s.chan := rfl

@[simp] theorem taken_bud (s : State) : (taken s).bud = s.bud := rfl

@[simp] theorem taken_sens (s : State) : (taken s).sens = s.sens := rfl

@[simp] theorem taken_pass (s : State) : (taken s).pass = s.pass := rfl

@[simp] theorem taken_lines (s : State) : (taken s).lines = s.lines := rfl

@[simp] theorem taken_pins (s : State) : (taken s).pins = s.pins := rfl

end Sys2Proof.Machine
end

