-- ==== Sys2Proof/Laws/Entries.lean ====
section
/-! SUPPORT. What a phase entry can do: the phase, the lines and the timers it leaves, entry by entry. -/

namespace Sys2Proof.Machine

/-- Leaving RUN changes the key event queue, the suspension and the notice-outstanding flag alone (R139, R115, R150). -/
theorem beginPhase_eq (p : Phase) (s : State) :
    beginPhase p s = { s with
      keys.queue := if s.ctl.phase = .run then [] else s.keys.queue
      keys.loss := if s.ctl.phase = .run then false else s.keys.loss
      sup.suspension := if s.ctl.phase = .run then none else s.sup.suspension
      note.outstanding := if s.ctl.phase = .run then false else s.note.outstanding
      clock.timeInPhase := 0, clock.phaseAt := s.clock.now
      lines.moves := []
      ctl := { s.ctl with
        phase := p
        warmUp := .stopped, stability := none, wait := none, supplyLoss := none, resetPulse := none, offTime := none
        ledFrom := if s.ctl.overlay.isSome then s.ctl.ledFrom else s.clock.now } } := by
  unfold beginPhase leaveRun
  by_cases h : s.ctl.phase = .run <;> simp only [h, if_true, if_false]

/-- What RUN had going ends as another phase begins (R115, R139, R150). -/
theorem beginPhase_runEnded (p : Phase) (s : State) : RunEnded s (beginPhase p s) := by
  rw [beginPhase_eq]
  unfold RunEnded
  split <;> exact ⟨rfl, rfl, rfl, rfl⟩

/-- PC_RST# asserted where it is not: everything it can do. -/
theorem assertReset_eq (s : State) :
    assertReset s = { s with
      lines.pcRst := true, lines.moves := s.lines.moves ++ (if s.lines.pcRst then [] else [.pcRstAsserted]) } := by
  unfold assertReset
  by_cases h : s.lines.pcRst = true
  · have e : ({ s with lines.pcRst := true } : State) = s := by rw [← h]
    simp only [h, if_true, List.append_nil]
    exact e.symm
  · simp only [h, Bool.false_eq_true, if_false]

/-- PWR_EN turned off where it is on: everything it can do. -/
theorem powerOff_eq (s : State) :
    powerOff s = { s with
      lines.pwrEn := false, lines.moves := s.lines.moves ++ (if s.lines.pwrEn then [.pwrEnOff] else []) } := by
  unfold powerOff
  by_cases h : s.lines.pwrEn = true
  · simp only [h, if_true]
  · have e : ({ s with lines.pwrEn := false } : State) = s := by
      rw [← Bool.eq_false_iff.mpr h]
    simp only [h, Bool.false_eq_true, if_false, List.append_nil]
    exact e.symm

/-- An entry to a phase with PWR_EN off leaves the phase and its timers as `beginPhase` sets them (R16). -/
theorem enterOff_ctl (p : Phase) (s : State) : (enterOff p s).ctl = (beginPhase p s).ctl := by
  simp [enterOff, powerOff_eq, assertReset_eq]

/-- The lines after an entry to a phase with PWR_EN off: PC_RST# first, then PWR_EN (R1). -/
theorem enterOff_lines (p : Phase) (s : State) :
    (enterOff p s).lines =
      { pwrEn := false, pcRst := true
        moves := (if s.lines.pcRst then [] else [.pcRstAsserted]) ++ (if s.lines.pwrEn then [.pwrEnOff] else []) } := by
  simp [enterOff, powerOff_eq, assertReset_eq, beginPhase_eq]
  rfl

/-- The upstream queue is empty after an entry to a phase with PWR_EN off (R89). -/
theorem enterOff_up (p : Phase) (s : State) : (enterOff p s).link.up = [] := by
  simp [enterOff]

/-- The phase of each entry. -/
@[simp] theorem enterOff_phase (p : Phase) (s : State) : (enterOff p s).ctl.phase = p := by
  rw [enterOff_ctl, beginPhase_eq]

@[simp] theorem enterPowerOn_phase (s : State) : (enterPowerOn s).ctl.phase = .powerOn := by
  simp [enterPowerOn, beginPhase_eq]

@[simp] theorem enterBoot_phase (s : State) : (enterBoot s).ctl.phase = .boot := by
  simp [enterBoot, startSupplyFilter, beginPhase_eq]

@[simp] theorem enterRestart_phase (s : State) : (enterRestart s).ctl.phase = .restart := by
  simp [enterRestart, assertReset_eq, beginPhase_eq]

@[simp] theorem enterPowerCycle_phase (s : State) : (enterPowerCycle s).ctl.phase = .powerCycle := by
  simp [enterPowerCycle]

@[simp] theorem enterCooldown_phase (s : State) : (enterCooldown s).ctl.phase = .cooldown := by
  simp [enterCooldown]

@[simp] theorem enterLockout_phase (s : State) : (enterLockout s).ctl.phase = .lockout := by
  simp [enterLockout]

/-! ## The allocation of an entry -/

/-- The allocation of the POWER_ON entry is one made in POWER_ON with the reserve charged (R11, R60). -/
theorem enterPowerOn_allocated (s : State) : AllocatedIn .powerOn true s (enterPowerOn s) := by
  obtain ⟨hc, hb, hd, hl, hq⟩ := allocate_reads true (s := { s with ctl.phase := .powerOn })
    (u := stopSupervision (beginPhase .powerOn s))
    (by rw [beginPhase_eq]; exact ⟨rfl, rfl, rfl, rfl, rfl, rfl, rfl, rfl, rfl, rfl⟩)
  exact ⟨hc, hb, hd, hl, congrArg (BitVec.getLsbD · _) hq⟩

/-- The allocation of an entry with PWR_EN off is one made in its phase without the reserve (R16, R60). -/
theorem enterOff_allocated (p : Phase) (s : State) : AllocatedIn p false s (enterOff p s) := by
  obtain ⟨hc, hb, hd, hl, hq⟩ := allocate_reads false (s := { s with ctl.phase := p })
    (u := setUp [] (powerOff (assertReset (stopSupervision (beginPhase p s)))))
    (by rw [powerOff_eq, assertReset_eq, beginPhase_eq]; exact ⟨rfl, rfl, rfl, rfl, rfl, rfl, rfl, rfl, rfl, rfl⟩)
  exact ⟨hc, hb, hd, hl, congrArg (BitVec.getLsbD · _) hq⟩

/-! ## What ends with RUN -/

/-- An entry to a phase with PWR_EN off ends what RUN had going, where it leaves RUN (R115, R139, R150). -/
theorem enterOff_runEnded (p : Phase) (s : State) : RunEnded s (enterOff p s) := by
  have h := beginPhase_runEnded p s
  unfold RunEnded at h ⊢
  simpa [enterOff, powerOff_eq, assertReset_eq, stopSupervision] using h

/-- The entry to RESTART ends what RUN had going, where it leaves RUN (R115, R139, R150). -/
theorem enterRestart_runEnded (s : State) : RunEnded s (enterRestart s) := by
  have h := beginPhase_runEnded .restart s
  unfold RunEnded at h ⊢
  simpa [enterRestart, assertReset_eq, stopSupervision] using h

/-! ## Chord firings -/

/-- No firing taken. -/
@[simp] theorem takeFirings_zero (s : State) : takeFirings 0 s = s := rfl

/-- Where none waits, none is taken. -/
@[simp] theorem takeFirings_nil {s : State} (h : s.ctl.firings = []) (n : Nat) : takeFirings n s = s := by
  cases n with
  | zero => rfl
  | succ n => simp only [takeFirings, h]

/-- The firing that has waited longest is taken first (R136). -/
theorem takeFirings_cons {s : State} {a : ChordAction} {rest : List ChordAction} (h : s.ctl.firings = a :: rest) (n : Nat) :
    takeFirings (n + 1) s = takeFirings n (handOn a { s with ctl.firings := rest }) := by
  simp only [takeFirings, h]

/-- A property that each firing taken keeps is kept by however many are taken. -/
theorem takeFirings_keeps {P : State → Prop} (hand : ∀ a rest s, s.ctl.firings = a :: rest → P s → P (handOn a { s with ctl.firings := rest })) :
    ∀ (n : Nat) (s : State), P s → P (takeFirings n s) := by
  intro n
  induction n with
  | zero => exact fun _ h => h
  | succ n ih =>
    intro s hs
    rcases h : s.ctl.firings with _ | ⟨a, rest⟩
    · rwa [takeFirings_nil h]
    · rw [takeFirings_cons h]
      exact ih _ (hand a rest s h hs)

/-- Nothing handed on changes nothing. -/
@[simp] theorem handFirings_nil (s : State) : handFirings [] s = s := rfl

/-- Firings handed on wait behind the others, and a free number of them is taken (log entry 32). -/
theorem handFirings_cons (a : ChordAction) (l : List ChordAction) (s : State) :
    handFirings (a :: l) s =
      takeFirings (Config.firingsTaken s.draw) { s with ctl.firings := s.ctl.firings ++ a :: l, draw := s.draw + 1 } := rfl

end Sys2Proof.Machine
end

