-- ==== Sys2Proof/Laws/Receiver.lean ====
section
/-! SUPPORT. What the receivers' search of the bytes can do: it depends on the bytes alone and not on the bound of its searches. -/

namespace Sys2Proof.Machine

/-- The bytes from the first SYNC on are no more than the bytes. -/
theorem dropToSync_length (l : List Byte) : (dropToSync l).length ≤ l.length := by
  induction l with
  | nil => exact Nat.le_refl _
  | cons b rest ih =>
    unfold dropToSync
    split
    · exact Nat.le_refl _
    · exact Nat.le_succ_of_le ih

/-- Bytes without a SYNC are passed over. -/
theorem dropToSync_of_not_mem {l : List Byte} (h : syncByte ∉ l) : dropToSync l = [] := by
  induction l with
  | nil => rfl
  | cons b rest ih =>
    rw [List.mem_cons, not_or] at h
    unfold dropToSync
    rw [if_neg (Ne.symm h.1), ih h.2]

/-- Bytes before a SYNC are passed over. -/
theorem dropToSync_append {before : List Byte} (h : syncByte ∉ before) (rest : List Byte) :
    dropToSync (before ++ syncByte :: rest) = syncByte :: rest := by
  induction before with
  | nil => simp [dropToSync]
  | cons b l ih =>
    rw [List.mem_cons, not_or] at h
    rw [List.cons_append, dropToSync, if_neg (Ne.symm h.1), ih h.2]

/-- One bound of the searches is as good as another where both reach the number of bytes (R79). -/
theorem examine_fuel (p : PortId) : ∀ (m n : Nat) (l : List Byte) (s : State), l.length ≤ m → l.length ≤ n →
    examine p m l s = examine p n l s := by
  intro m
  induction m with
  | zero =>
    intro n l s hm _
    obtain rfl := List.length_eq_zero_iff.mp (Nat.le_zero.mp hm)
    cases n <;> rfl
  | succ m ih =>
    intro n l s hm hn
    cases n with
    | zero =>
      obtain rfl := List.length_eq_zero_iff.mp (Nat.le_zero.mp hn)
      rfl
    | succ n =>
      have hd := dropToSync_length l
      simp only [examine]
      generalize dropToSync l = q at hd
      have ht : q.tail.length = q.length - 1 := List.length_tail
      by_cases h5 : q.length < 5
      · simp only [h5, if_true]
      · simp only [h5, if_false]
        rw [ih n q.tail _ (by omega) (by omega), ih n q.tail _ (by omega) (by omega),
          ih n (q.drop _) _ (by rw [List.length_drop]; omega) (by rw [List.length_drop]; omega)]

end Sys2Proof.Machine
end

