-- ==== Sys2Proof/Tests/Slice0.lean ====
section
/-! SUPPORT. Tests: the well-formedness checks, single steps against the manual's own tables and worked examples, and for each statement
with hypotheses a state that meets them, clause by clause at a boundary value. -/

namespace Sys2Proof.Tests

open Sys2Proof Sys2Proof.Machine

set_option maxRecDepth 8000

/-! ## Small states -/

/-- The state a command answers. -/
def nextOf (o : Host.Outcome State Fault Refusal) : State :=
  match o with
  | .next t => t
  | .fault _ | .refused _ => State.reset

/-- A state with the computer up in RUN, 20 s after reset, its heartbeat deadline at 30 s. -/
def running : State :=
  { State.reset with
    clock.now := 20000000, clock.uptime := 20, clock.phaseAt := 10000000, clock.timeInPhase := 10
    pins.pwrgood := true
    lines := { pwrEn := true, pcRst := false, moves := [] }
    ctl.phase := .run, ctl.warmUp := .stopped
    sup.deadline := .heartbeat, sup.expiry := 30000000
    note.pending := 0 }

/-- A state of another phase, the rest as in RUN. -/
def inPhase (p : Phase) : State := { running with ctl.phase := p }

/-- Below the operating range. -/
def unpowered : State := { State.reset with powered := false }

/-- A frame from the computer to a bezel node, the display controller of chapter 6's example. -/
def refresh : Frame := mkFrame 0x22 0x01 0x36 [0x07]

/-- The level frame of chapter 6's example, asking for level 255. -/
def level255 : Frame := mkFrame 0x24 0x01 0x31 [0x00, 0xFF]

/-- Entry 0 of chapter 6's example: CLAMP_LEVEL at offset 1 in every phase. -/
def clampEntry : PassDef :=
  { PassDef.factory with active := true, action := .clampLevel, node := 0x24, clsValue := 0x31, clsMask := 0xFF, phases := 0xFF, levelOffset := 1 }

/-- Entry 1 of chapter 6's example: HEARTBEAT with token offset 0, forwarded, in BOOT and RUN. -/
def beatEntry : PassDef :=
  { PassDef.factory with
    active := true, action := .heartbeat, node := 0x22, clsValue := 0x36, clsMask := 0xFF, phases := 0x0C, tokenOffset := 0, forward := true }

/-- Answer record 0 of chapter 6's example. -/
def stateAnswer : Answer :=
  { cls := 0x6D, phaseOffset := 1, boardOffset := 0xFF, soakOffset := 2, template := [0x01, 0x00, 0x00, 0x00] }

/-- RUN with the table of chapter 6's example. -/
def policed : State :=
  { running with cfg.pass := running.cfg.pass.set 0 clampEntry |>.set 1 beatEntry, cfg.answers := running.cfg.answers.set 0 stateAnswer }

/-- A key event. -/
def someEvent : KeyEvent :=
  { kind := .press, position := some 10, code := 11, chord := none, cold := true, stuck := false, resync := false, truncated := false,
    stamp := 60, codes := [] }

/-- A restart record. -/
def someRecord : RestartRecord :=
  { cause := .heartbeatTimeout, action := .reset, phaseLeft := .run, cabinet := 0, uptime := 20, board := none, staleCount := 0, lateCount := 0 }

/-- PREHEAT one sample short of its soak, warm, with a SKIP_WARMUP firing handed on and not yet taken (R10). -/
def soaking : State :=
  { State.reset with
    sens.effBoard := some 0, sens.effDisplay := some 0, ctl.firings := [.skipWarmup]
    sens.gate := { satisfied := true, since := some 1, soakMs := 59750, complete := false, span := 60 } }

/-- LOCKOUT one sample short of the overheat dwell, with a CLEAR_LOCKOUT firing handed on and not yet taken (R23). -/
def lockedHot : State :=
  { State.reset with ctl.phase := .lockout, ctl.warmUp := .stopped, sens.effBoard := some 400, sens.dwellMs := 9750, ctl.firings := [.clearLockout] }

/-- RUN with the heartbeat deadline and the supply loss filter both run out (R118). -/
def bothDue : State := { running with pins.pwrgood := false, sup.expiry := 20000000, ctl.supplyLoss := some 19950000 }

/-- RUN with the factory's chord 2 one pass short of its hold time, its two members held (R135). -/
def chordHeld : State :=
  let down := { Key.cold with state := .down, delivering := true }
  { running with
    keys.keys := (running.keys.keys.set 0 down).set 47 down
    keys.chords := running.keys.chords.set 2 { state := .holding, elapsed := 7995 } }

/-! ## Well-formedness, one refusal for each check -/

theorem test_wf_accepts : Instr.wf (.setTime [1, 2, 3, 4]) = true ∧ Instr.wf (.lengthAbort .c 33) = true
    ∧ Instr.wf (.press 47) = true ∧ Instr.wf (.chordFire 3) = true ∧ Instr.wf (.unknownCommand 0x4D []) = true := by decide

theorem test_wf_refuses_long_payload : Instr.wf (.setTime (List.replicate 33 0)) = false
    ∧ Instr.wf (.frameReceived .c { refresh with payload := List.replicate 33 0 }) = false := by decide

theorem test_wf_refuses_length_32 : Instr.wf (.lengthAbort .c 32) = false := by decide

theorem test_wf_refuses_position_48 : Instr.wf (.press 48) = false ∧ Instr.wf (.release 48) = false ∧ Instr.wf (.stuck 48) = false
    ∧ Instr.wf (.stuckClear 48) = false ∧ Instr.wf (.keyRepeat 48) = false := by decide

theorem test_wf_refuses_chord_4 : Instr.wf (.chordFire 4) = false := by decide

theorem test_wf_refuses_used_class : Instr.wf (.unknownCommand 0x40 []) = false
    ∧ Instr.wf (.unknownCommand 0x4D (List.replicate 33 0)) = false := by decide

/-- The table gives no row any bits. -/
theorem test_no_word_spells_a_command : decodeTableWord 8 0x40 = none ∧ State.reset.withFetchWord 8 0x40 = State.reset := ⟨rfl, rfl⟩

/-! ## Single steps against the manual's tables and examples -/

/-- Chapter 2.3's conversion table. -/
theorem test_conversion_table : convert 999 0 = -220 ∧ convert 1000 0 = -220 ∧ convert 1120 0 = -100 ∧ convert 1208 12 = 0
    ∧ convert 1220 0 = 0 ∧ convert 1360 (-8) = 132 ∧ convert 1720 0 = 500 ∧ convert 2400 0 = 500 := by decide

/-- Chapter 2.2's sample kinds at their edges. -/
theorem test_sample_kinds : sampleKind 63 = .short ∧ sampleKind 64 = .valid ∧ sampleKind 4031 = .valid ∧ sampleKind 4032 = .openCircuit := by decide

/-- Chapter 2.4's filter table, and a falling step. -/
theorem test_filter_table : [-100, -90, -83, -78, -74, -71, -69, -67, -61].map (fun f => filterStep f (-60))
    = [-90, -83, -78, -74, -71, -69, -67, -66, -60] ∧ filterStep 10 5 = 9 ∧ filterStep 10 2 = 8 := by decide

/-- The first sample of chapter 1's cold start: every sensor VALID with its filter at -100 q. -/
theorem test_first_sample : (fun t : State => (t.sens.air.state, t.sens.effAir, t.sens.effDisplay, t.sens.effBoard, t.sens.board.filtered))
    (nextOf (exec (.sensorSample 1120 1120 1120) State.reset)) = (.valid, some (-100), some (-100), some (-100), some (-100)) := by decide

/-- Chapter 2's worked example at 601.0 s: the fourth OPEN sample of DISPLAY fails it, AIR stands in, and the gate becomes satisfied. -/
theorem test_display_lost : (fun t : State => (t.sens.display.state, t.sens.effDisplay, isPending .sensorFault t, t.sens.gate.satisfied,
      t.sens.gate.since, soakRemaining t))
    (nextOf (exec (.sensorSample 1204 4095 1170)
      { State.reset with
        clock.uptime := 601
        sens.air := { state := .valid, faultyRun := 0, validRun := 0, reading := some (-16), filtered := some (-16) }
        sens.display := { state := .valid, faultyRun := 3, validRun := 0, reading := some (-30), filtered := some (-30) }
        sens.board := { state := .valid, faultyRun := 0, validRun := 0, reading := some (-50), filtered := some (-50) } }))
    = (.failed, some (-16), true, true, some 601, 60) := by decide

/-- Chapter 4's first worked allocation. -/
theorem test_first_allocation :
    allocationOf { params := Settings.factory.budget, reserve := true, dF := 0, d1 := 64, d0 := 32, lReq := 200, degraded := false }
      = { compCharge := 70, fanGrant := 0, fanCharge := 0, h1Grant := 64, h1Charge := 40, ceiling := 200, blCharge := 19,
          h0Grant := 16, h0Charge := 30 } := by decide

/-- Between chapter 4's worked allocations: a level of 255 against the ceiling of 200, through the CLAMP_LEVEL entry. -/
theorem test_level_clamped : (fun t : State => (t.link.down.map fun x => (x.frame.payload, checkMatches x.frame), t.bud.back.lReq, t.bud.back.lFwd,
      t.bud.back.clamped, (t.pass.map EntryCounts.special).head?))
    (nextOf (exec (.frameReceived .c level255) { policed with bud.back.ceiling := 200 }))
    = ([([0x00, 0xC8], true)], 255, 200, true, some 1) := by decide

/-- Chapter 4's second example, allocation A: a reduction discarded at a STALLED port. -/
theorem test_reduction_held_up : (fun t : State => (t.bud.back.lFwd, t.bud.back.ceiling, t.bud.back.resend, t.bud.back.unenforced, t.link.down))
    (nextOf (exec .budgetTimerExpiry
      { running with
        bud.back.template := some level255, bud.back.levelOffset := some 1, chan.cooling.degraded := true, link.b.stalled := true }))
    = (255, 128, true, true, []) := by decide

/-- Chapter 3's worked example, period 432: the third trip within 60 s locks H0 off. -/
theorem test_third_trip : (fun t : State => (t.chan.h0.ch.state, t.chan.h0.ch.applied, t.chan.h0.base, t.chan.h0.ch.trips.length,
      isPending .channelFault t))
    (nextOf (exec (.overcurrentTrip .h0)
      { running with
        chan.h0.ch.trips := [900000, 19000000], chan.h0.ch.overFrom := some 19900000, chan.h0.base := 24, chan.h0.ch.applied := 24 }))
    = (.lockedOff, 0, 0, 3, true) := by decide

/-- The same with the first trip 60 s old: it no longer counts. -/
theorem test_aged_trip : (fun t : State => (t.chan.h0.ch.state, t.chan.h0.ch.trips))
    (nextOf (exec (.overcurrentTrip .h0)
      { running with clock.now := 60900000, chan.h0.ch.trips := [900000, 19000000], chan.h0.ch.overFrom := some 60800000 }))
    = (.active, [19000000, 60900000]) := by decide

/-- Chapter 3's second example at 2.300 s: HEAT_INH# falls. -/
theorem test_heat_inhibit : (fun t : State => (t.chan.h0.ch.applied, t.chan.h0.ch.on, t.chan.h0.ch.state, t.chan.h1.base, t.bud.last.h0Charge))
    (nextOf (exec .heatInhAssert { State.reset with chan.h0.ch.applied := 40, chan.h0.base := 40 })) = (0, false, .inhibited, 0, 0) := by decide

/-- Chapter 6's worked query in PREHEAT with 18 s of the soak gone: answered with phase 1 and 42 s. -/
theorem test_answered_query : (fun g : Frame => (g.dst, g.src, g.cls, g.payload))
    (answerFrame 0 (mkFrame 0x01 0x2A 0x6C [])
      { State.reset with
        cfg.answers := State.reset.cfg.answers.set 0 stateAnswer
        sens.gate := { satisfied := true, since := some 1312, soakMs := 18000, complete := false, span := 60 } })
    = (0x2A, 0x01, 0x6D, [0x01, 0x01, 0x00, 0x2A]) := by decide

/-- A refresh whose token is new restarts the deadline and is forwarded; the same again is stale (chapter 7's example). -/
theorem test_refresh_is_a_heartbeat : (fun t : State => (t.sup.expiry, t.link.down.map DownFrame.frame, t.sup.staleCount,
      (nextOf (exec (.frameReceived .c refresh) t)).sup.staleCount))
    (nextOf (exec (.frameReceived .c refresh) policed)) = (30000000, [refresh], 0, 1) := by decide

/-- Chapter 7's worked escalation at 2741.22 s: two RESET and two POWER_CYCLE records bring LOCKOUT. -/
theorem test_escalation_to_lockout : (fun t : State => (t.ctl.phase, t.sup.history.map RestartRecord.action, t.lines.pwrEn))
    (nextOf (exec .deadlineExpiry
      { inPhase .boot with
        clock.now := 2741220000, clock.uptime := 2741, sup.deadline := .bootWindow, sup.expiry := 2741220000
        sup.history := [{ someRecord with uptime := 2000 }, { someRecord with uptime := 2180 },
          { someRecord with action := .powerCycle, uptime := 2360 }, { someRecord with action := .powerCycle, uptime := 2550 }] }))
    = (.lockout, [.reset, .reset, .powerCycle, .powerCycle, .lockout], false) := by decide

/-- Chapter 8's worked example, pass 12: position 10 enters DOWN and its PRESS, cold, is delivered in a KEY frame. -/
theorem test_cold_press : (fun t : State => ((t.keys.keys[10]?).map Key.state, t.keys.pressEff, t.link.up.map fun x => (x.frame.cls, x.rank)))
    (nextOf (exec (.scanPass (1#48 <<< 10))
      { running with
        sens.effDisplay := some (-60), keys.keys := running.keys.keys.set 10 { Key.cold with raw := true, state := .pressPending, pending := 45 } }))
    = (some .down, 50, [(0xE1, .key)]) := by decide

/-- Chapter 8's worked example, pass 24: three closed corners and their ghost. -/
theorem test_ghost : [10, 13, 42, 45, 11].map (isAmbiguous (0x240000002400#48)) = [true, true, true, true, false] := by decide

/-- R150 tests at each raise: a sample that fails AIR (stage 2) and then raises the overheat warning (stage 5) has sent the NOTICE (4, 1). -/
theorem test_notice_at_each_raise : (fun t : State => (t.link.up.map fun f => f.frame.payload, t.note.pending))
    (nextOf (exec (.sensorSample 0 1220 1520) { running with sens.air.faultyRun := 3 })) = ([[0x04, 0x01]], 9#13) := by decide

/-- Chapter 9's worked drain of the causes: GET_CAUSE takes 6, then NOTICE (9, 1) follows its reply. -/
theorem test_drain : (fun t : State => t.link.up.map fun x => (x.frame.cls, x.frame.payload))
    (nextOf (exec (.getCause []) { running with note.pending := 0x120, note.outstanding := true }))
    = [(0xC1, [0x00, 0x06, 0x01]), (0xE0, [0x09, 0x01])] := by decide

/-- Chapter 10's worked example: a store cut short leaves no good image, and the factory settings come back. -/
theorem test_store_cut_short : (fun t : State => (t.cfg.budget.rc, t.store.shadow, t.note.pending))
    (nextOf (exec (.powerOnReset false)
      (nextOf (exec .brownOut { running with cfg.budget.rc := 90, store.programming := some 0, store.capture := some running.cfg }))))
    = (70, none, 0x1000) := by decide

/-- A frame with a wrong check is counted and dropped (R79). -/
theorem test_wrong_check : (fun t : State => (t.link.c.counters.check, t.link.c.counters.good, t.link.down))
    (nextOf (exec (.frameReceived .c { refresh with check := 0 }) running)) = (1, 0, []) := by decide

/-- R10, soak completion first: the firing that waited meets POWER_ON and is refused. -/
theorem test_soak_before_firing : (fun t : State => (t.ctl.phase, t.ctl.overlay, t.ctl.firings))
    (nextOf (step (nextOf (exec .soakComplete soaking)))) = (.powerOn, some .refused, []) := by decide

/-- R10, firing first: POWER_ON is entered by it, accepted, and the soak completion that follows moves no phase. -/
theorem test_firing_before_soak : (fun t : State => (t.ctl.phase, t.ctl.overlay, (nextOf (exec .soakComplete t)).ctl.phase))
    (nextOf (step soaking)) = (.powerOn, some .accepted, .powerOn) := by decide

/-- R23, OVERHEAT first: COOLDOWN with origin LOCKOUT, which the firing changes. -/
theorem test_overheat_before_firing : (fun u : State => (u.ctl.phase, u.ctl.originLockout, (nextOf (step u)).ctl.originLockout))
    (nextOf (exec .overheatDwellExpiry lockedHot)) = (.cooldown, true, false) := by decide

/-- R118's two requests due at once, HEARTBEAT_TIMEOUT first: two records, and POWER_CYCLE. -/
theorem test_loss_arrives_in_restart : (fun t : State => (t.ctl.phase, t.sup.history.map fun r => (r.cause, r.action)))
    (nextOf (exec .supplyLossFilterExpiry (nextOf (exec .deadlineExpiry bothDue))))
    = (.powerCycle, [(.heartbeatTimeout, .reset), (.supplyLoss, .powerCycle)]) := by decide

/-- R80: no BREAK within 20 ms of the BOOT entry, one after, and no second in the low period. -/
theorem test_break_once : (fun s : State => ((nextOf (exec (.rxBreak ⟨.c, 5⟩) { s with clock.now := 20019999 })).note.statusPart2,
      (fun t : State => (t.note.statusPart2, (nextOf (exec (.rxBreak ⟨.c, 5⟩) { t with note.statusPart2 := true })).note.statusPart2))
        (nextOf (exec (.rxBreak ⟨.c, 5⟩) { s with clock.now := 20020000 }))))
    { running with link.rxFrom := 20000000, note.statusPart2 := true } = (true, false, true) := by decide

/-- R129: a PRESS made by its row is cold by the extension then in force, whatever the last pass had. -/
theorem test_press_row_cold : (fun t : State => t.link.up.map fun x => x.frame.payload.take 4)
    (nextOf (exec (.press 10)
      { running with
        sens.effDisplay := some (-60), keys.coldPress := false
        keys.keys := running.keys.keys.set 10 { Key.cold with state := .pressPending, pending := 45 } }))
    = [[0x01, 0x0A, 0x0B, 0x01]] := by decide

/-- R133: a key that is down when its code becomes 0 makes a RELEASE with its old code. -/
theorem test_keymap_release : (fun t : State => t.link.up.map fun x => (x.frame.cls, x.frame.payload.take 3))
    (nextOf (exec (.setKeymap [47, 1, 0, 0, 0, 0, 0]) chordHeld)) = [(0xDD, [0x00]), (0xE1, [0x02, 0x2F, 0x30])] := by decide

/-- Reset agrees with the power-on reset row, but for the strap's image area (R6). -/
theorem test_reset_is_power_on : nextOf (exec (.powerOnReset false) State.reset) = State.reset := by decide

/-- A step takes the front of the queue. -/
theorem test_step_takes_the_front : (fun t : State => (t.pins.pwrgood, t.pending))
    (nextOf (step { State.reset with pending := [.pwrgoodRise, .tachPulse] })) = (true, [.tachPulse]) := by decide

/-! ## Witnesses: for each statement with hypotheses, states that meet them, clause by clause -/

theorem witness_IdleStepOvertakesNoAlarm :
    State.reset.pending = [] ∧ unpowered.pending = [] ∧ unpowered.powered = false ∧ State.reset.powered = true
    ∧ dueNow 0 (alarms State.reset) = [] ∧ dueNow 5000 (alarms State.reset) ≠ []
    ∧ State.reset.ctl.firings = [] ∧ { running with ctl.firings := [.report] }.ctl.firings ≠ []
    ∧ (250000, Instr.sensorSample 1220 1220 1220) ∈ alarms State.reset ∧ (5000, Instr.scanPass 0) ∈ alarms State.reset
    ∧ (1000000, Instr.budgetTimerExpiry) ∈ alarms State.reset ∧ (2700000000, Instr.warmUpLimitExpiry) ∈ alarms State.reset
    ∧ (125000, Instr.heaterOnTimeEnd .h0) ∈ alarms State.reset := by decide

theorem witness_TimeBasesRunOn : State.reset.clock.phaseAt ≤ State.reset.clock.now ∧ running.clock.phaseAt ≤ running.clock.now := by decide

theorem witness_BrownOutHoldsTheLines :
    running.powered = true ∧ { running with store.programming := some 0 }.store.programming.isSome = true
    ∧ unpowered.powered = false ∧ ∀ r : Bool, Instr.tachPulse ≠ .powerOnReset r := by decide

theorem witness_PreheatIsLeft :
    (InPhase .preheat { State.reset with clock.now := 2700000000 } ∧ State.reset.ctl.warmUp = .running 2700000000
      ∧ State.reset.cfg.sensing.policy = .bootAnyway ∧ { State.reset with cfg.sensing.policy := .keepHeating }.cfg.sensing.policy = .keepHeating)
    ∧ (∀ p ∈ [Phase.preheat, .run],
        let s := { inPhase p with sens.gate := { satisfied := true, since := some 1, soakMs := 59750, complete := false, span := 60 } }
        s.powered = true ∧ s.sens.gate.satisfied = true ∧ s.sens.gate.complete = false
        ∧ s.cfg.sensing.tSoak * 1000 ≤ s.sens.gate.soakMs + 250)
    ∧ (∀ done : Bool,
        let s := { inPhase .powerCycle with ctl.offTime := some 10000000, sens.gate.complete := done }
        InPhase .powerCycle s ∧ HasRun s.ctl.offTime 10000000 s ∧ s.sens.gate.complete = done) := by
  unfold InPhase HasRun; decide

theorem witness_ActionsAndCooldownExit :
    ({ running with ctl.supplyLoss := some 19950000 }.ctl.supplyLoss.any (fun t0 => t0 + 50000 ≤ running.clock.now) = true
      ∧ { running with ctl.supplyLoss := some 19950001 }.ctl.supplyLoss.any (fun t0 => t0 + 50000 ≤ running.clock.now) = false)
    ∧ (inPhase .preheat).ctl.phase ∉ [Phase.powerOn, .boot, .run] ∧ running.ctl.phase ∈ [Phase.powerOn, .boot, .run]
    ∧ (inPhase .restart).ctl.phase ∈ [Phase.powerOn, .boot, .run, .restart]
    ∧ (inPhase .lockout).ctl.phase ∈ [Phase.preheat, .powerOn, .boot, .run, .restart, .powerCycle, .lockout]
    ∧ (inPhase .cooldown).ctl.phase = .cooldown ∧ (inPhase .cooldown).sens.effBoard = none
    ∧ (∀ b ∈ [(301 : Int), 300], ∀ o : Bool,
        let s := { inPhase .cooldown with sens.effBoard := some b, ctl.originLockout := o }
        s.ctl.phase = .cooldown ∧ s.sens.effBoard = some b ∧ s.ctl.originLockout = o
        ∧ (s.cfg.sensing.tTrip - 40 < b ↔ b = 301) ∧ (b ≤ s.cfg.sensing.tTrip - 40 ↔ b = 300)) := by decide

theorem witness_PowerGoodBringsBoot :
    State.reset.powered = true ∧ State.reset.pins.pwrgood = false ∧ running.pins.pwrgood = true
    ∧ (let s := { inPhase .powerOn with ctl.stability := some 19900000 }
       InPhase .powerOn s ∧ HasRun s.ctl.stability 100000 s)
    ∧ (let s := { inPhase .restart with ctl.resetPulse := some 19800000 }
       InPhase .restart s ∧ HasRun s.ctl.resetPulse 200000 s) := by
  unfold InPhase HasRun; decide

theorem witness_ChordActionsAndOverlay :
    (let s := { State.reset with sens.effBoard := some (-120) }
     s.ctl.phase = .preheat ∧ s.sens.effBoard.any (fun b => s.cfg.sensing.tAbsMin ≤ b) = true)
    ∧ running.ctl.phase ≠ .preheat ∧ (inPhase .lockout).ctl.phase = .lockout ∧ (inPhase .cooldown).ctl.phase ≠ .lockout
    ∧ (inPhase .powerOn).ctl.phase ∈ [Phase.powerOn, .boot, .run] ∧ (inPhase .restart).ctl.phase ∉ [Phase.powerOn, .boot, .run]
    ∧ (let s := { running with ctl.overlay := some .refused, ctl.overlayFrom := 19000000 }
       s.powered = true ∧ s.ctl.overlay.isSome = true ∧ s.ctl.overlayFrom + 1000000 ≤ s.clock.now)
    ∧ running.ctl.overlay = none ∧ running.ctl.firings = [] ∧ { running with ctl.firings := [.report] }.ctl.firings = .report :: []
    ∧ (let s := soaking
       InPhase .preheat s ∧ s.ctl.firings = [.skipWarmup] ∧ s.sens.gate.satisfied = true ∧ s.sens.gate.complete = false
       ∧ s.cfg.sensing.tSoak * 1000 ≤ s.sens.gate.soakMs + 250)
    ∧ (let s := lockedHot
       InPhase .lockout s ∧ s.ctl.firings = [.clearLockout] ∧ s.sens.dwellMs = 9750) := by
  unfold InPhase; decide

/-- Each span of the refused overlay at its two ends, and a phase of each base pattern with no overlay. -/
theorem witness_ChordActionsAndOverlay_led :
    (∀ k < 8, ∀ n ∈ [k * 125000, k * 125000 + 62499, k * 125000 + 62500, (k + 1) * 125000 - 1],
      let s := { running with clock.now := n, ctl.overlay := some .refused, ctl.overlayFrom := 0 }
      s.powered = true ∧ s.ctl.overlay = some .refused
      ∧ (k * 125000 ≤ s.clock.now - s.ctl.overlayFrom ∧ s.clock.now - s.ctl.overlayFrom < k * 125000 + 62500
          ∨ k * 125000 + 62500 ≤ s.clock.now - s.ctl.overlayFrom ∧ s.clock.now - s.ctl.overlayFrom < (k + 1) * 125000))
    ∧ { running with ctl.overlay := some .accepted }.ctl.overlay = some .accepted
    ∧ ∀ p ∈ [Phase.preheat, .boot, .run, .powerCycle, .lockout], (inPhase p).powered = true ∧ (inPhase p).ctl.overlay = none
        ∧ (inPhase p).ctl.phase = p := by decide

theorem witness_RequestTakenOrIgnored :
    ((inPhase .cooldown).ctl.phase ∈ [Phase.preheat, .powerCycle, .cooldown, .lockout] ∧ RestartCause.supplyLoss ≠ .overheat)
    ∧ ((inPhase .restart).ctl.phase = .restart ∧ RestartCause.chordRestart = .chordRestart)
    ∧ ¬ (((inPhase .lockout).ctl.phase ∈ [Phase.preheat, .powerCycle, .cooldown, .lockout] ∧ RestartCause.overheat ≠ .overheat)
          ∨ ((inPhase .lockout).ctl.phase = .restart ∧ RestartCause.overheat = .chordRestart)) := by decide

theorem witness_ExpiriesThatRequestARestart :
    (let s := { inPhase .powerOn with ctl.wait := some 18000000 }
     InPhase .powerOn s ∧ HasRun s.ctl.wait 2000000 s)
    ∧ (let s := { inPhase .restart with ctl.supplyLoss := some 19950000 }
       s.powered = true ∧ s.ctl.phase ∈ [Phase.boot, .run, .restart] ∧ HasRun s.ctl.supplyLoss 50000 s)
    ∧ (let s := { inPhase .boot with sup.deadline := .bootWindow, sup.expiry := 20000000 }
       s.powered = true ∧ s.sup.deadline = .bootWindow ∧ s.sup.expiry ≤ s.clock.now)
    ∧ (let s := { running with sup.expiry := 20000000 }
       s.powered = true ∧ s.sup.deadline = .heartbeat ∧ s.sup.expiry ≤ s.clock.now)
    ∧ (State.reset.powered = true ∧ State.reset.sup.deadline = .stopped)
    ∧ (let s := bothDue
       InPhase .run s ∧ s.sup.deadline = .heartbeat ∧ s.sup.expiry ≤ s.clock.now ∧ s.pins.pwrgood = false
       ∧ HasRun s.ctl.supplyLoss 50000 s ∧ (nextOf (exec .deadlineExpiry s)).ctl.phase = .restart) := by
  unfold InPhase HasRun; decide

/-- Stale and fresh offers, each deadline state, and the offers out of BOOT and RUN. -/
theorem witness_Heartbeats :
    State.reset.ctl.phase ∉ [Phase.boot, .run] ∧ running.ctl.phase ∈ [Phase.boot, .run]
    ∧ (let s := { running with sup.pulseToken := some 7 }
       ¬ (s.sup.firstHeartbeat = true ∨ s.cfg.watchdog.tokenCheck = false ∨ (some (7 : Byte) ≠ none ∧ some 7 ≠ tokenOf .pulse s))
       ∧ (some (8 : Byte) ≠ none ∧ some 8 ≠ tokenOf .pulse s) ∧ s.sup.deadline = .heartbeat)
    ∧ { running with sup.deadline := .suspended }.sup.deadline = .suspended
    ∧ { inPhase .boot with sup.deadline := .stopped }.sup.deadline = .stopped
    ∧ (let s := { inPhase .boot with sup.deadline := .bootWindow, sup.firstHeartbeat := true }
       TakesCommands s ∧ s.ctl.phase ∈ [Phase.boot, .run] ∧ s.ctl.phase = .boot ∧ s.sup.firstHeartbeat = true
       ∧ s.sup.deadline = .bootWindow ∧ heldCodes { s with keys := chordHeld.keys } = [1, 48])
    ∧ TakesCommands running ∧ ([] : List Byte).length ≤ 1 ∧ ([7] : List Byte).length ≤ 1 := by
  unfold TakesCommands; decide

theorem witness_WatchdogSuspended :
    TakesCommands running ∧ running.ctl.phase = .run ∧ running.sup.deadline = .heartbeat
    ∧ TakesCommands (inPhase .boot) ∧ (inPhase .boot).ctl.phase ≠ .run
    ∧ (let x : Suspension := { start := 10000000, expiry := 20000000 }
       let s := { running with sup.deadline := .suspended, sup.suspension := some x }
       TakesCommands s ∧ s.ctl.phase = .run ∧ s.powered = true ∧ s.sup.deadline = .suspended ∧ s.sup.suspension = some x
       ∧ x.expiry ≤ s.clock.now) := by
  unfold TakesCommands; decide

theorem witness_ArmedRestart :
    TakesCommands running ∧ running.sup.arm = none ∧ ([0] : List Byte) ≠ [] ∧ ([] : List Byte).length ≠ 1 ∧ ([0, 0] : List Byte).length ≠ 1
    ∧ (let s := { running with sup.arm := some 20000000 }
       s.powered = true ∧ s.sup.arm = some 20000000 ∧ 20000000 ≤ s.clock.now ∧ TakesCommands s ∧ s.sup.arm.isSome = true
       ∧ s.ctl.phase ∈ [Phase.boot, .run])
    ∧ (let s := { inPhase .powerOn with sup.arm := some 20000001 }
       s.clock.now < 20000001 ∧ TakesCommands s ∧ s.sup.arm.isSome = true ∧ s.ctl.phase ∉ [Phase.boot, .run])
    ∧ 1 < (2 : Byte).toNat ∧ (1 : Byte).toNat ≤ 1 := by
  unfold TakesCommands; decide

theorem witness_SetWatchdog : TakesCommands running ∧ 1 < (2 : Byte).toNat ∧ (1 : Byte).toNat ≤ 1 := by
  unfold TakesCommands; decide

theorem witness_SampleUpdatesTheSensors : State.reset.powered = true := by decide

theorem witness_FilterSettlesOnTheReading :
    (let x : Sensor := { state := .valid, faultyRun := 0, validRun := 0, reading := some 4, filtered := some 4 }
     x.filtered = some 4 ∧ x.state = .valid ∧ 64 ≤ (64 : RawCode).toNat ∧ (4031 : RawCode).toNat ≤ 4031 ∧ (63 : RawCode).toNat < 64
     ∧ 4031 < (4032 : RawCode).toNat)
    ∧ (let x : Sensor := { state := .failed, faultyRun := 4, validRun := 18, reading := some 4, filtered := some 4 }
       x.filtered = some 4 ∧ x.state = .failed ∧ x.validRun < 19) := by decide

theorem witness_SensorsFailAndRecover :
    (let s := { running with sens.air.faultyRun := 3 }
     s.powered = true ∧ (sensorOf .air s).state ≠ .failed ∧ (sensorOf .air s).faultyRun = 3)
    ∧ (let s := { running with sens.board.state := .failed, sens.board.validRun := 19 }
       s.powered = true ∧ (sensorOf .board s).state = .failed ∧ (sensorOf .board s).validRun = 19
       ∧ 64 ≤ (64 : RawCode).toNat ∧ (64 : RawCode).toNat ≤ 4031)
    ∧ (let x : Sensor := { state := .valid, faultyRun := 0, validRun := 0, reading := some 4, filtered := some 4 }
       x.state = .valid ∧ x.filtered = some 4 ∧ Sensor.cold.state ≠ .valid) := by decide

/-- The satisfied test at its two thresholds, against each gate the clauses name. -/
theorem witness_GateRecord :
    let holds (b d : Int) : Bool :=
      (some b).any (fun b => State.reset.cfg.sensing.gBoard ≤ b) && (some d).any (fun d => State.reset.cfg.sensing.gDisp ≤ d)
    let g : Gate := { satisfied := true, since := some 1, soakMs := 59749, complete := false, span := 60 }
    holds (-60) (-20) = true ∧ holds (-61) (-20) = false ∧ holds (-60) (-21) = false
    ∧ State.reset.sens.gate.satisfied = false ∧ g.satisfied = true ∧ { g with complete := true }.complete = true ∧ g.complete = false
    ∧ g.soakMs + 250 < State.reset.cfg.sensing.tSoak * 1000
    ∧ State.reset.cfg.sensing.tSoak * 1000 ≤ { g with soakMs := 59750 }.soakMs + 250
    ∧ State.reset.ctl.phase = .preheat ∧ running.ctl.phase ≠ .preheat := by decide

theorem witness_Overheat :
    State.reset.sens.effBoard = none
    ∧ (let s := { running with sens.effBoard := some 280 }
       s.sens.warnRaised = false ∧ s.cfg.sensing.tWarn ≤ 280 ∧ 279 < s.cfg.sensing.tWarn ∧ 271 < s.cfg.sensing.tWarn - 8
       ∧ s.cfg.sensing.tWarn - 8 ≤ 272 ∧ { s with sens.warnRaised := true }.sens.warnRaised = true)
    ∧ (inPhase .cooldown).ctl.phase = .cooldown ∧ running.sens.effBoard.any (fun b => running.cfg.sensing.tTrip ≤ b) = false
    ∧ (∀ n ∈ [9749, 9750],
        let s := { running with sens.effBoard := some 340, sens.dwellMs := n }
        s.powered = true ∧ s.ctl.phase ≠ .cooldown ∧ s.sens.effBoard.any (fun b => s.cfg.sensing.tTrip ≤ b) = true
        ∧ (s.sens.dwellMs < 9750 ∨ s.sens.dwellMs = 9750)) := by decide

theorem witness_CoolingDegraded :
    State.reset.sens.effBoard = none
    ∧ (let s := { running with sens.effBoard := some 101, sens.effAir := some 0, chan.cooling.setMs := 119750 }
       s.sens.effBoard = some 101 ∧ s.sens.effAir = some 0 ∧ s.cfg.sensing.deltaMax < 101 - 0 ∧ s.chan.fan.ch.applied = 64
       ∧ (79 : Int) - 0 < s.cfg.sensing.deltaMax - 20 ∧ hasCondition stallBit s.chan.fan.ch = false
       ∧ s.cfg.sensing.deltaMax - 20 ≤ 80 - 0 ∧ (100 : Int) - 0 ≤ s.cfg.sensing.deltaMax
       ∧ s.powered = true ∧ s.chan.cooling.degraded = false ∧ 119750 ≤ s.chan.cooling.setMs)
    ∧ (let s := { running with sens.effBoard := some 101, sens.effAir := some 0, chan.fan.ch.applied := 63 }
       s.cfg.sensing.deltaMax < 101 - 0 ∧ s.chan.fan.ch.applied ≠ 64 ∧ hasCondition stallBit s.chan.fan.ch = false
       ∧ hasCondition stallBit { s with chan.fan.ch.conds := 2 }.chan.fan.ch = true)
    ∧ (let s := { running with sens.effBoard := some 79, sens.effAir := some 0, chan.fan.ch.conds := 2 }
       (79 : Int) - 0 < s.cfg.sensing.deltaMax - 20 ∧ hasCondition stallBit s.chan.fan.ch = true)
    ∧ (let s := { running with chan.cooling := { degraded := true, setMs := 0, clearMs := 119750 } }
       s.powered = true ∧ s.chan.cooling.degraded = true ∧ 119750 ≤ s.chan.cooling.clearMs) := by decide

theorem witness_BudgetStages :
    ∀ n ∈ [58, 59, 60], { running with bud.limitedRun := n }.bud.limitedRun = n ∧ running.powered = true := by decide

/-- A control period from each channel state the clauses name. -/
theorem witness_ControlPeriod :
    running.powered = true ∧ running.chan.h0.ch.state ≠ .lockedOff ∧ running.chan.h1.ch.state ≠ .lockedOff
    ∧ running.chan.fan.ch.state ≠ .lockedOff ∧ running.chan.inhibit = false
    ∧ { running with chan.inhibit := true }.chan.inhibit = true
    ∧ { running with chan.h0.ch.state := .lockedOff }.chan.h0.ch.state = .lockedOff
    ∧ { running with chan.h1.ch.state := .lockedOff }.chan.h1.ch.state = .lockedOff
    ∧ { running with chan.fan.ch.state := .lockedOff }.chan.fan.ch.state = .lockedOff := by decide

theorem witness_Switches :
    let s := { running with bud.periodAt := 19875000 }
    s.powered = true ∧ (heaterOf .h0 s).ch.on = true ∧ (heaterOf .h0 s).ch.applied < 64
    ∧ s.bud.periodAt + (heaterOf .h0 s).ch.applied * 15625 ≤ s.clock.now := by decide

theorem witness_Trips :
    (∀ c ∈ [ChannelId.h1, .fan],
      let s := { running with
        sens.effDisplay := some 0, chan.h1.ch.overFrom := some 19998000, chan.fan.ch.overFrom := some 19998000
        chan.h1.ch.trips := [1, 2] }
      s.powered = true ∧ HasRun (channelOf c s).overFrom 2000 s)
    ∧ (let s := { running with sens.effDisplay := some (-1), chan.h1.ch.overFrom := some 19900000 }
       HasRun (channelOf .h1 s).overFrom 100000 s)
    ∧ (let s := { running with chan.h0.ch.state := .lockedOff }
       s.powered = true ∧ (channelOf .h0 s).state = .lockedOff)
    ∧ (let s := { running with clock.now := 60000001, chan.h0.ch.trips := [1] }
       s.powered = true ∧ (channelOf .h0 s).state ≠ .lockedOff
       ∧ (channelOf .h0 s).trips.filter (fun t => decide (s.clock.now < t + 60000000)) ≠ (channelOf .h0 s).trips) := by
  unfold HasRun; decide

theorem witness_HeaterDiagnostics :
    ∀ h ∈ [HeaterId.h0, .h1],
      let s := setHeater h
        { heaterOf h running with openFrom := some 19950000, goodFrom := some 19950000, shortFrom := some 19950000, lowFrom := some 19950000 }
        running
      s.powered = true ∧ HasRun (heaterOf h s).openFrom 50000 s ∧ HasRun (heaterOf h s).shortFrom 50000 s
      ∧ HasRun (heaterOf h s).goodFrom 50000 s ∧ HasRun (heaterOf h s).lowFrom 50000 s := by
  unfold HasRun; decide

theorem witness_TachAndStall :
    running.powered = true ∧ running.chan.fan.lastPulse = none
    ∧ (let s := { running with chan.fan.lastPulse := some 19950000, chan.fan.stallFrom := some 19000000 }
       600 ≤ (nextOf (exec .tachPulse s)).chan.fan.speed)
    ∧ (let s := { running with chan.fan.lastPulse := some 19949000, chan.fan.stallFrom := none }
       s.chan.fan.lastPulse = some 19949000 ∧ (nextOf (exec .tachPulse s)).chan.fan.speed = 588
       ∧ (nextOf (exec .tachPulse s)).chan.fan.stallFrom = some 20000000)
    ∧ (let s := { running with chan.fan.lastPulse := some 19000000, chan.fan.stallFrom := some 15000000 }
       s.chan.fan.lastPulse = some 19000000 ∧ HasRun s.chan.fan.lastPulse 1000000 s ∧ HasRun s.chan.fan.stallFrom 5000000 s
       ∧ 16 ≤ s.chan.fan.ch.applied ∧ s.chan.fan.ch.holdOff = false) := by
  unfold HasRun; decide

theorem witness_HeatInhibit :
    running.powered = true ∧ running.pins.heatInhLow = false ∧ { running with pins.heatInhLow := true }.pins.heatInhLow = true
    ∧ (let s := { running with chan.inhibit := true, chan.inhRise := some 19900000, chan.h0.ch.state := .inhibited, chan.h1.ch.state := .inhibited }
       s.powered = true ∧ s.chan.inhibit = true ∧ HasRun s.chan.inhRise 100000 s ∧ s.chan.h0.ch.state = .inhibited
       ∧ s.chan.h1.ch.state = .inhibited) := by
  unfold HasRun; decide

theorem witness_LevelFrames :
    1 < level255.payload.length ∧ running.link.b.stalled = false
    ∧ (running.link.down.filter fun x => decide (x.mark ≠ .own)).length < 8 ∧ running.bud.back.ceiling ≤ 255
    ∧ { running with link.b.stalled := true }.link.b.stalled = true
    ∧ 8 ≤ ((List.replicate 8 ({ frame := refresh, mark := .unmarked } : DownFrame)).filter fun x => decide (x.mark ≠ .own)).length
    ∧ running.bud.back.template = none
    ∧ (let b := { running with bud.back.template := some level255, bud.back.resend := true }.bud.back
       b.template = some level255 ∧ (b.resend = true ∨ b.ceiling < b.lFwd ∨ (b.lFwd < b.ceiling ∧ b.clamped = true))) := by decide

theorem witness_CheckSeesEveryChangedByte : (0x00 : Byte) ≠ 0x80 := by decide

/-- The first byte, the last but one, and the last byte of a frame with a full payload. -/
theorem witness_BytesBuildTheFrame :
    let f := mkFrame 0x22 0x01 0x36 (List.replicate 32 0)
    f.payload.length ≤ 32 ∧ running.powered = true ∧ (portOf .c running).assembly = (frameBytes f).take 0 ∧ 37 + 1 < 7 + f.payload.length
    ∧ (portOf .c { running with link.c.assembly := (frameBytes f).take 38 }).assembly = (frameBytes f).take 38
    ∧ 38 + 1 = 7 + f.payload.length := ⟨by decide, rfl, rfl, by decide, rfl, by decide⟩

theorem witness_ReceiverFaults :
    running.powered = true ∧ (portOf .c running).assembly = [] ∧ (0xD3 : Byte) ≠ 0xD2
    ∧ refresh.payload.length ≤ 32 ∧ checkMatches refresh = true
    ∧ checkMatches { refresh with check := 0 } = false ∧ 0xD2 ∉ (frameBytes { refresh with check := 0 }).tail
    ∧ (let l : List Byte := [0x11, 0xD2, 0x22, 0x01, 0x36]
       0xD2 ∉ l.take 1 ∧ l = l.take 1 ++ 0xD2 :: l.drop 2 ∧ (l.drop 2).length < 4 ∧ (0x20 : Byte).toNat ≤ 32
       ∧ ([] : List Byte).length < (0x20 : Byte).toNat + 2 ∧ ([0, 0] : List Byte).length < (0x01 : Byte).toNat + 2)
    ∧ 0xD2 :: ((frameBytes refresh).tail ++ [0xD2]) = frameBytes refresh ++ [0xD2]
    ∧ (portOf .b { running with link.b.assembly := [0xD2, 1, 2, 3] }).assembly = [0xD2, 1, 2, 3] ∧ 32 < (33 : Byte).toNat
    ∧ (let x := portOf .b { running with link.b.assembly := [0xD2], link.b.lastByte := 19994999 }
       x.assembly ≠ [] ∧ x.lastByte + 5000 < running.clock.now) := by decide

/-- One frame for each way the routing goes. -/
theorem witness_GoodFramesAreRouted :
    State.reset.lines.pcRst = true ∧ State.reset.sup.openRecord = false
    ∧ (let s := { State.reset with sup.openRecord := true, sup.history := [someRecord] }
       s.sup.openRecord = true ∧ s.sup.history = [] ++ [someRecord])
    ∧ running.lines.pcRst = false ∧ (0x02 : Byte) ≠ 0x01
    ∧ ((0x3F : Byte).toNat < 0x40 ∧ 0x5F < (0x60 : Byte).toNat ∧ 0x40 ≤ (0x40 : Byte).toNat ∧ (0x5F : Byte).toNat ≤ 0x5F)
    ∧ running.link.up.length ≤ 11
    ∧ 12 ≤ { running with link.up := List.replicate 12 (upFrame .reply 0xC0 []) }.link.up.length
    ∧ (0x20 ≤ (0x20 : Byte).toNat ∧ (0x3F : Byte).toNat ≤ 0x3F ∧ (0x1F : Byte).toNat < 0x20 ∧ 0x3F < (0x40 : Byte).toNat)
    ∧ ((0x10 : Byte) ≠ 0x0F ∧ (0x10 : Byte) ≠ 0x00 ∧ (0x0F : Byte) ≠ 0x01 ∧ (0x0F : Byte) ≠ 0x00) := by decide

theorem witness_CommandRowsAreTheirFrames : running.powered = true ∧ (0x57 : Byte) ∈ [(0x4D : Byte), 0x4E, 0x4F, 0x56, 0x57] := by decide

theorem witness_LinkResetAndStalls :
    running.powered = true ∧ State.reset.lines.pcRst = true ∧ running.lines.pcRst = false ∧ running.ctl.phase = .run
    ∧ (running.clock.now < 19980001 + 20000 ∧ running.clock.now < { running with link.rxFrom := 19980001 }.link.rxFrom + 20000
        ∧ { running with link.rxJudged := some 7 }.link.rxJudged = some 7)
    ∧ (let s := { running with link.rxFrom := 19980000, link.rxJudged := some 7 }
       19980000 + 20000 ≤ s.clock.now ∧ s.link.rxFrom + 20000 ≤ s.clock.now ∧ s.link.rxJudged ≠ some 19980000)
    ∧ (inPhase .boot).ctl.phase ≠ .run
    ∧ (let s := { running with link.b.stallFrom := some 19500000, link.c.stallFrom := some 19500000 }
       s.powered = true ∧ s.link.b.stalled = false ∧ HasRun s.link.b.stallFrom 500000 s ∧ s.link.c.stalled = false
       ∧ HasRun s.link.c.stallFrom 500000 s) := by
  unfold HasRun; decide

theorem witness_QueuesAndTransmitters :
    { running with link.b.stalled := true }.link.b.stalled = true ∧ running.link.b.stalled = false ∧ running.link.c.stalled = false
    ∧ (List.replicate 7 ({ frame := refresh, mark := .unmarked } : DownFrame)).length < 8
    ∧ 8 ≤ (List.replicate 8 ({ frame := refresh, mark := .unmarked } : DownFrame)).length
    ∧ (List.replicate 10 (upFrame .reply 0xC0 [])).length ≤ 10 ∧ 11 ≤ (List.replicate 11 (upFrame .reply 0xC0 [])).length
    ∧ takeByRank [upFrame .key 0xE1 [], upFrame .reply 0xC0 [], upFrame .reply 0xC1 []]
        = some (upFrame .reply 0xC0 [], [upFrame .key 0xE1 [], upFrame .reply 0xC1 []])
    ∧ (let s := { running with link.b.sending := some { frame := refresh, since := 0 }, link.down := [{ frame := refresh, mark := .unmarked }] }
       (portOf .b s).sending.isSome = true ∧ s.pins.rdyB = true ∧ s.link.down = [{ frame := refresh, mark := .unmarked }])
    ∧ ((portOf .b running).sending = none ∧ holdsFrame .b running = false ∧ rdyIn .b { running with pins.rdyB := false } = false)
    ∧ (let s := { running with link.c.sending := some { frame := refresh, since := 0 }, link.up := [upFrame .reply 0xC0 []] }
       s.pins.rdyC = true ∧ s.link.c.sending.isSome = true ∧ takeByRank s.link.up = some (upFrame .reply 0xC0 [], [])) := by decide

/-- The second entry of the example table takes a refresh, the last entry's index is reached, and no entry of the factory's fits. -/
theorem witness_FirstFittingEntryTakesTheFrame :
    let fit (s : State) (i : Nat) : Bool := (s.cfg.pass[i]?).any fun d => fits d .down refresh s.ctl.phase
    policed.pass.length = policed.cfg.pass.length ∧ policed.cfg.pass[1]? = some beatEntry ∧ policed.pass[1]? = some EntryCounts.zero
    ∧ fit policed 1 = true ∧ (∀ j < 1, fit policed j = false) ∧ (∀ i < running.cfg.pass.length, fit running i = false) := by decide

theorem witness_PassActions :
    { beatEntry with action := .drop }.action = .drop ∧ { beatEntry with action := .forward }.action = .forward
    ∧ beatEntry.action = .heartbeat ∧ clampEntry.action = .clampLevel ∧ { beatEntry with action := .answer }.action = .answer
    ∧ State.reset.lines.pcRst = true ∧ running.lines.pcRst = false
    ∧ [0x00].length ≤ clampEntry.levelOffset.toNat ∧ clampEntry.levelOffset.toNat < level255.payload.length := by decide

theorem witness_AnswerFrames :
    policed.cfg.answers[0]? = some stateAnswer ∧ liveFieldsFit stateAnswer = true
    ∧ stateAnswer.phaseOffset.toNat ≠ 255 ∧ stateAnswer.soakOffset.toNat ≠ 255 ∧ stateAnswer.boardOffset.toNat = 255
    ∧ liveFieldsFit { stateAnswer with boardOffset := 2, soakOffset := 0xFF } = true
    ∧ (0 < stateAnswer.template.length ∧ 0 ≠ stateAnswer.phaseOffset.toNat ∧ 0 ≠ stateAnswer.soakOffset.toNat) := by decide

theorem witness_WrongLengthsAreRefused :
    TakesCommands running ∧ [(0 : Byte)].length ≠ 0 ∧ ([] : List Byte).length ≠ 1 ∧ ([] : List Byte).length < 6
    ∧ 1 < [(0 : Byte), 0].length ∧ 16 < ([0, 0, 0, 0, 0, 17] : List Byte)[5].toNat
    ∧ ([0, 0, 0, 0, 0, 0] : List Byte)[1].toNat = 0 ∧ (0x4D : Byte) ∈ [(0x4D : Byte), 0x4E, 0x4F, 0x56, 0x57] := by
  unfold TakesCommands; decide

theorem witness_StatusHistoryAndCounters :
    TakesCommands running ∧ 7 < (8 : Byte).toNat ∧ (7 : Byte).toNat ≤ 7 ∧ (1 : Byte) ≠ 0
    ∧ { running with note.statusPart2 := true }.note.statusPart2 = true := by
  unfold TakesCommands; decide

theorem witness_PlainAndKeymapSettings :
    TakesCommands running ∧ 1 < (2 : Byte).toNat ∧ (1 : Byte).toNat ≤ 1
    ∧ 1 ≤ (List.replicate 16 (0 : Byte)).length ∧ (List.replicate 16 (0 : Byte)).length ≤ 16
    ∧ (48 < (33 : Byte).toNat + 16 ∧ 47 < (48 : Byte).toNat ∧ (32 : Byte).toNat + 16 ≤ 48 ∧ (32 : Byte).toNat ≤ 47)
    ∧ running.cfg.keymap.length = 48 ∧ running.keys.keys[47]? = some Key.cold
    ∧ running.cfg.keymap[47]? = some { code := 48, repeats := false, deliver := true }
    ∧ chordHeld.keys.keys[47]? = some { Key.cold with state := .down, delivering := true } := by
  unfold TakesCommands; decide

/-- The two groups of SET_THERMAL, a policy in range and out of it, and a group that does not exist. -/
theorem witness_ThermalAndBudget :
    TakesCommands running
    ∧ (∀ g ∈ [(0x01 : Byte), 0x02, 0x03], ∀ x ∈ [(1 : Byte), 2],
        let p := (g :: List.replicate 10 0) ++ x :: List.replicate 8 0
        p.length = 20 ∧ p.head? = some g ∧ u8At p 11 = x.toNat)
    ∧ (List.replicate 8 (0 : Byte)).length = 8 ∧ (0x03 : Byte) ≠ 0x01 ∧ (0x03 : Byte) ≠ 0x02 := by
  unfold TakesCommands; decide

/-- Each judgement of SET_PASS_ENTRY by operands at its edge, and the reads at the last index. -/
theorem witness_PassTableCommands :
    TakesCommands running ∧ 31 < (32 : Byte).toNat ∧ (31 : Byte).toNat ≤ 31 ∧ 7 < (8 : Byte).toNat ∧ (7 : Byte).toNat ≤ 7
    ∧ 1 < (2 : Byte).toNat ∧ 4 < (5 : Byte).toNat ∧ (31 < (32 : Byte).toNat ∧ (32 : Byte) ≠ 0xFF)
    ∧ (∃ j < policed.cfg.pass.length, j ≠ 1 ∧ (policed.cfg.pass[j]?).any (fun e => e.active && decide (e.action = .clampLevel)) = true)
    ∧ running.cfg.pass[31]? = some PassDef.factory ∧ running.pass[31]? = some EntryCounts.zero
    ∧ (List.replicate 16 (0 : Byte)).length ≤ 16
    ∧ running.cfg.answers[7]? = some { cls := 0, phaseOffset := 0xFF, boardOffset := 0xFF, soakOffset := 0xFF, template := [] } := by
  unfold TakesCommands; decide

theorem witness_CausesAndNotices :
    let s := { running with note.pending := 0x1001 }
    let l := (List.range 13).filter fun n => (s.note.pending &&& s.cfg.enables).getLsbD n
    TakesCommands s ∧ l = 0 :: [12] ∧ s.powered = true
    ∧ (s.ctl.phase = .run ∧ l ≠ [] ∧ s.note.outstanding = false ∧ s.link.up.length ≤ 10
        ∧ s.link.up.all (fun f => decide (f.rank ≠ .notice)) = true)
    ∧ ((List.range 13).filter fun n => (running.note.pending &&& running.cfg.enables).getLsbD n) = []
    ∧ { s with note.outstanding := true }.note.outstanding ≠ false := by
  unfold TakesCommands; decide

theorem witness_ChannelCommands :
    TakesCommands running ∧ 2 < (3 : Byte).toNat ∧ ((2 : Byte), ChannelId.fan) ∈ [((0 : Byte), ChannelId.h0), (1, .h1), (2, .fan)]
    ∧ (channelOf .h0 { running with chan.h0.ch.state := .lockedOff }).state = .lockedOff
    ∧ (channelOf .h0 running).state ≠ .lockedOff ∧ ChannelId.h1 ≠ .h0 := by
  unfold TakesCommands; decide

theorem witness_StoreAndLoad :
    Settings.factory.inRange = true
    ∧ (let i : Image := { format := 0, length := 0, settings := Settings.factory, checkFirst := 0, checkSecond := 0 }
     let s := { running with store.area := some i }
     s.store.programming = none ∧ s.store.area = some i)
    ∧ State.reset.store.programming = none ∧ State.reset.store.area = none
    ∧ (let s := { running with store.programming := some 0, store.capture := some running.cfg, store.shadow := some running.cfg }
       TakesCommands s ∧ s.powered = true ∧ s.store.programming = some 0 ∧ s.store.programming.isSome = true
       ∧ s.store.capture = some running.cfg ∧ s.store.shadow = some running.cfg)
    ∧ TakesCommands running ∧ running.store.shadow = none ∧ running.store.programming = none := by
  unfold TakesCommands; decide

theorem witness_GhostTest :
    ((0 : Nat) < 6 ∧ 5 < 6 ∧ 0 < 8 ∧ 7 < 8 ∧ (0 : Nat) ≠ 5 ∧ (0 : Nat) ≠ 7
      ∧ 3 ≤ [0 * 8 + 0, 0 * 8 + 7, 5 * 8 + 0, 5 * 8 + 7].countP (fun p => (0x800000000081#48).getLsbD p)
      ∧ 47 ∈ [0 * 8 + 0, 0 * 8 + 7, 5 * 8 + 0, 5 * 8 + 7])
    ∧ (40 < 48 ∧ isAmbiguous 0x800000000081#48 40 = true)
    ∧ (List.range 48).countP (fun q => (0x800000000001#48).getLsbD q) < 3 := by decide

theorem witness_ScanPassMovesTheKeys :
    (chordHeld.cfg.chords[2]? = some { count := 2, m0 := 0, m1 := 47, m2 := 0, holdMs := 8000, action := .requestRestart, phases := 0x0C }
      ∧ chordHeld.keys.chords[2]? = some { state := .holding, elapsed := 7995 })
    ∧ running.powered = true ∧ running.keys.keys[47]? = some Key.cold
    ∧ running.cfg.keymap[47]? = some { code := 48, repeats := false, deliver := true } := by decide

/-- A key at each moment, its times at the edge. -/
theorem witness_KeyMoments :
    (∀ st ∈ [KeyState.pressPending, .releasePending, .stuck],
      let k := { Key.cold with state := st, pending := 115 }
      let s := { running with keys.keys := running.keys.keys.set 47 k }
      s.powered = true ∧ s.keys.keys[47]? = some k ∧ s.cfg.keymap[47]? = some { code := 48, repeats := false, deliver := true }
      ∧ k.ambiguous = false ∧ k.state = st ∧ (48 : Byte) ≠ 0 ∧ pressEff s ≤ k.pending + 5 ∧ relEff s ≤ k.pending + 5)
    ∧ (let k := { Key.cold with state := .down, held := 29995, repeating := true, repeatTime := 395 }
       k.state = .down ∧ running.cfg.keypad.tStuck ≠ 0 ∧ running.cfg.keypad.tStuck * 1000 ≤ min 600000 (k.held + 5) ∧ k.repeating = true
       ∧ (if k.repeats = 0 then running.cfg.keypad.repeatDelay else running.cfg.keypad.repeatPeriod) ≤ k.repeatTime + 5) := by decide

/-- A chord of the factory's about to fire, and SET_CHORD operands at each judgement's edge. -/
theorem witness_Chords :
    (let s := chordHeld
     let d : ChordDef := { count := 2, m0 := 0, m1 := 47, m2 := 0, holdMs := 8000, action := .requestRestart, phases := 0x0C }
     let c : ChordRun := { state := .holding, elapsed := 7995 }
     s.powered = true ∧ s.cfg.chords[2]? = some d ∧ s.keys.chords[2]? = some c ∧ c.state = .holding ∧ d.count ≠ 0
     ∧ d.holdMs ≤ c.elapsed + 5 ∧ isHeld s.keys.keys d = true ∧ inPhaseSet d.phases s.ctl.phase = true
     ∧ ∀ p ∈ d.members, p < s.keys.keys.length)
    ∧ TakesCommands running ∧ 3 < (4 : Byte).toNat ∧ ¬ (([5, 5] : List Byte).map BitVec.toNat).Nodup
    ∧ (∃ m ∈ ([5, 48] : List Byte).map BitVec.toNat, 47 < m) ∧ (([5, 47] : List Byte).map BitVec.toNat).Nodup := by
  unfold TakesCommands; decide

theorem witness_KeyEventQueue :
    (let s := { running with keys.queue := someEvent :: List.replicate 8 someEvent, keys.loss := true }
     s.powered = true ∧ s.keys.queue = someEvent :: List.replicate 8 someEvent
     ∧ (s.ctl.phase = .run ∧ s.link.up.countP (fun f => decide (f.rank = .key)) < 4 ∧ s.link.up.length ≤ 10)
     ∧ (s.keys.loss = true ∧ (List.replicate 8 someEvent).length ≤ 8))
    ∧ (let s := { running with keys.queue := [someEvent], link.up := List.replicate 4 (upFrame .key 0xE1 []) }
       s.keys.queue = [someEvent] ∧ ¬ s.link.up.countP (fun f => decide (f.rank = .key)) < 4) := by decide

theorem witness_RowsNotDueChangeNothing :
    running.powered = true ∧ running.ctl.phase ≠ .preheat
    ∧ (State.reset.ctl.warmUp = .running 2700000000 ∧ State.reset.clock.now < 2700000000)
    ∧ (let s := { inPhase .powerOn with ctl.stability := some 19900001, ctl.wait := some 18000001 }
       ¬ (s.ctl.phase = .powerOn ∧ HasRun s.ctl.stability 100000 s) ∧ ¬ (s.ctl.phase = .powerOn ∧ HasRun s.ctl.wait 2000000 s))
    ∧ ¬ (running.ctl.phase ∈ [Phase.boot, .run, .restart] ∧ HasRun running.ctl.supplyLoss 50000 running)
    ∧ (let s := { inPhase .restart with ctl.resetPulse := some 19800001 }
       ¬ (s.ctl.phase = .restart ∧ HasRun s.ctl.resetPulse 200000 s))
    ∧ (let s := { inPhase .powerCycle with ctl.offTime := some 10000001 }
       ¬ (s.ctl.phase = .powerCycle ∧ HasRun s.ctl.offTime 10000000 s))
    ∧ (let s := { running with
         chan.inhibit := true, chan.inhRise := some 19900001, chan.fan.lastPulse := some 19000001, chan.fan.stallFrom := some 15000001
         chan.h0.openFrom := some 19950001, chan.h0.shortFrom := some 19950001 }
       ¬ (s.chan.inhibit = true ∧ HasRun s.chan.inhRise 100000 s) ∧ ¬ HasRun s.chan.fan.lastPulse 1000000 s
       ∧ ¬ HasRun s.chan.fan.stallFrom 5000000 s ∧ ¬ HasRun (heaterOf .h0 s).openFrom 50000 s ∧ ¬ HasRun (heaterOf .h0 s).shortFrom 50000 s)
    ∧ ((portOf .c running).assembly = [] ∧ (portOf .c running).sending = none
        ∧ (portOf .c { running with link.c.stalled := true }).stalled = true
        ∧ running.clock.now ≤ { running with link.c.lastByte := 19995000 }.link.c.lastByte + 5000
        ∧ ¬ HasRun { running with link.c.stallFrom := some 19500001 }.link.c.stallFrom 500000 running)
    ∧ running.sup.arm = none ∧ running.sup.suspension = none ∧ running.store.programming = none := by
  unfold HasRun; decide

/-- The rest of its premises, a step short of each span. -/
theorem witness_RowsNotDueChangeNothing_shortOfTheSpan :
    (let s := { running with
       ctl.overlay := some .accepted, ctl.overlayFrom := 19000001, chan.fan.ch.overFrom := some 19998001, chan.fan.ch.trips := [1]
       chan.h0.goodFrom := some 19950001, chan.h0.lowFrom := some 19950001, chan.h0.ch.on := true, chan.h0.ch.applied := 8
       bud.periodAt := 19875001, sup.deadline := .suspended, sup.suspension := some { start := 0, expiry := 20000001 }
       sup.arm := some 20000001, store.programming := some 0 }
     s.powered = true ∧ ¬ (s.ctl.overlay ≠ none ∧ s.ctl.overlayFrom + 1000000 ≤ s.clock.now) ∧ ¬ HasRun s.chan.fan.ch.overFrom 2000 s
     ∧ (∀ t ∈ s.chan.fan.ch.trips, s.clock.now < t + 60000000) ∧ ¬ HasRun s.chan.h0.goodFrom 50000 s ∧ ¬ HasRun s.chan.h0.lowFrom 50000 s
     ∧ ¬ (s.bud.periodAt + s.chan.h0.ch.applied * 15625 ≤ s.clock.now) ∧ s.sup.arm = some 20000001 ∧ s.clock.now < 20000001
     ∧ s.store.capture = none)
    ∧ { running with sup.deadline := .heartbeat, sup.expiry := 20000001 }.clock.now < 20000001
    ∧ (let s := { running with sens.gate.satisfied := true, sens.gate.soakMs := 59500, sens.dwellMs := 9500, chan.cooling.setMs := 119500 }
       ¬ (s.cfg.sensing.tSoak * 1000 ≤ s.sens.gate.soakMs + 250) ∧ ¬ (10000 ≤ s.sens.dwellMs + 250)
       ∧ ¬ (120000 ≤ s.chan.cooling.setMs + 250))
    ∧ (let k := { Key.cold with state := .pressPending, pending := 10 }
       let s := { running with sens.effDisplay := some 20, keys.keys := running.keys.keys.set 5 k }
       s.keys.keys[5]? = some k ∧ ¬ (pressEff s ≤ k.pending + 5))
    ∧ (let c : ChordRun := { state := .holding, elapsed := 4990 }
       let s := { running with keys.chords := running.keys.chords.set 0 c }
       s.keys.chords[0]? = some c ∧ (s.cfg.chords[0]?).map ChordDef.holdMs = some 5000 ∧ ¬ (5000 ≤ c.elapsed + 5)) := by
  unfold HasRun; decide

/-- RUN with a restart on record, three VALID sensors, a frame queued each way, and a command waiting. -/
def settled : State :=
  let x (t : Int) : Sensor := { state := .valid, faultyRun := 0, validRun := 0, reading := some t, filtered := some t }
  { running with
    sens.air := x 20, sens.display := x 10, sens.board := x 0, sens.effAir := some 20, sens.effDisplay := some 10, sens.effBoard := some 0
    sup.history := [someRecord], link.up := [upFrame .notice 0xE0 [0x06, 0x01]], link.down := [{ frame := refresh, mark := .unmarked }]
    pending := [.tachPulse] }

/-- The premises of the invariants' step statements, met together by one state, and the step from it answers a next state. -/
theorem witness_LinesTimersAndSupervisionFollowThePhase :
    LinesFollowPhase settled ∧ TimersFollowPhase settled ∧ SupervisorFollowsPhase settled ∧ step settled = .next (nextOf (step settled)) := by
  refine ⟨?_, ?_, ?_, rfl⟩
  · unfold LinesFollowPhase; decide
  · unfold TimersFollowPhase; decide
  · exact ⟨Or.inl rfl, by decide⟩

theorem witness_QueuesStayInBounds : QueuesInBounds settled := by unfold QueuesInBounds; decide

theorem witness_EscalationStaysBounded : EscalationBounded settled :=
  ⟨by decide, by decide, fun _ => Nat.lt_of_le_of_lt List.countP_le_length (by decide)⟩

theorem witness_SettingsStayInRange : SettingsInRange settled :=
  ⟨by decide, fun _ h => (nomatch h), fun _ h => (nomatch h), fun _ h => (nomatch h)⟩

theorem witness_SensorsStaySound : SensorsSound settled := by
  have one (t : Int) (h : inWindow t = true) :
      Sensor.sound { state := .valid, faultyRun := 0, validRun := 0, reading := some t, filtered := some t } := by
    simp [Sensor.sound, h]
  refine ⟨one 20 (by decide), one 10 (by decide), one 0 (by decide), ?_, ?_, ?_⟩ <;> intro t h <;> cases h <;> decide

theorem witness_PowerStaysInBudget : PowerInBudget settled := by unfold PowerInBudget heaterSound; decide

end Sys2Proof.Tests
end

section
/-! The filter of a sensor: the laws of one step (R32), settling under repeated steps, and what a sample does to the filtered value (R30, R31). -/

namespace Sys2Proof.Machine

/-! ## One step (R32) -/

@[simp] theorem filterStep_self (t : Int) : filterStep t t = t := by simp [filterStep]

/-- R32's truncating division is odd, so every law of a falling step is the law of the rising step mirrored. -/
theorem filterStep_neg (f t : Int) : filterStep (-f) (-t) = -filterStep f t := by
  have mirrored : -t - -f = -(t - f) := by ring
  simp only [filterStep, mirrored, Int.neg_tdiv]
  split_ifs <;> omega

theorem filterStep_of_lt {f t : Int} (h : f < t) : filterStep f t = f + max 1 ((t - f) / 4) := by
  have truncated : (t - f).tdiv 4 = (t - f) / 4 := Int.tdiv_eq_ediv_of_nonneg (by omega)
  simp only [filterStep, truncated]
  split_ifs <;> omega

theorem filterStep_of_gt {f t : Int} (h : t < f) : filterStep f t = f - max 1 ((f - t) / 4) := by
  have rising : filterStep (-f) (-t) = -f + max 1 ((-t - -f) / 4) := filterStep_of_lt (neg_lt_neg h)
  rw [filterStep_neg] at rising
  omega

theorem filterStep_le_of_lt {f t : Int} (h : f < t) : filterStep f t ≤ t := by
  rw [filterStep_of_lt h]
  omega

theorem le_filterStep_of_gt {f t : Int} (h : t < f) : t ≤ filterStep f t := by
  rw [filterStep_of_gt h]
  omega

/-! ## Settling -/

/-- Each step takes at least 1 q off the distance to the reading, until it is 0. -/
theorem natAbs_sub_filterStep_le (f t : Int) : (t - filterStep f t).natAbs ≤ (t - f).natAbs - 1 := by
  rcases lt_trichotomy f t with rising | rfl | falling
  · have notPassed := filterStep_le_of_lt rising
    have := filterStep_of_lt rising
    omega
  · simp
  · have notPassed := le_filterStep_of_gt falling
    have := filterStep_of_gt falling
    omega

theorem iterate_filterStep_of_natAbs_le (t : Int) (n : Nat) :
    ∀ f : Int, (t - f).natAbs ≤ n → (fun f => filterStep f t)^[n] f = t := by
  induction n with
  | zero =>
    intro f near
    rw [Function.iterate_zero_apply]
    omega
  | succ n ih =>
    intro f near
    have closer := natAbs_sub_filterStep_le f t
    rw [Function.iterate_succ_apply]
    exact ih (filterStep f t) (by omega)

/-! ## Samples (R27, R30, R31) -/

theorem sampleSensor_of_valid {r : RawCode} (low : 64 ≤ r.toNat) (high : r.toNat ≤ 4031) (trim : Int) (x : Sensor) :
    sampleSensor trim r x = validSample (convert r trim) x := by
  have kind : sampleKind r = .valid := by
    rw [sampleKind, if_neg (by omega), if_pos high]
  simp only [sampleSensor, kind]

theorem sampleSensor_of_faulty {r : RawCode} (h : r.toNat < 64 ∨ 4031 < r.toNat) (trim : Int) (x : Sensor) :
    sampleSensor trim r x = faultySample x := by
  rcases h with short | openCircuit
  · have kind : sampleKind r = .short := by rw [sampleKind, if_pos (by omega)]
    simp only [sampleSensor, kind]
  · have kind : sampleKind r = .openCircuit := by rw [sampleKind, if_neg (by omega), if_neg (by omega)]
    simp only [sampleSensor, kind]

@[simp] theorem failSensor_filtered (x : Sensor) : (failSensor x).filtered = x.filtered := rfl

/-- A faulty sample holds the filter in every state, also at an entry to FAILED (R29 to R31). -/
@[simp] theorem faultySample_filtered (x : Sensor) : (faultySample x).filtered = x.filtered := by
  cases state : x.state with
  | failed => simp only [faultySample, state]
  | starting | valid =>
    simp only [faultySample, state]
    split_ifs <;> rfl

theorem validSample_filtered_of_valid {x : Sensor} {f : Int} (state : x.state = .valid) (held : x.filtered = some f) (t : Int) :
    (validSample t x).filtered = some (filterStep f t) := by
  simp only [validSample, state, held, Option.getD_some]

theorem validSample_filtered_of_failed {x : Sensor} (state : x.state = .failed) (short : x.validRun < 19) (t : Int) :
    (validSample t x).filtered = x.filtered := by
  simp only [validSample, state]
  rw [if_neg (by omega)]

/-- R31: whatever its kind, a sample of a FAILED sensor that is not the twentieth valid one in a row holds the filter. -/
theorem sampleSensor_filtered_of_failed {x : Sensor} (state : x.state = .failed) (short : x.validRun < 19) (trim : Int) (r : RawCode) :
    (sampleSensor trim r x).filtered = x.filtered := by
  by_cases valid : 64 ≤ r.toNat ∧ r.toNat ≤ 4031
  · obtain ⟨low, high⟩ := valid
    rw [sampleSensor_of_valid low high, validSample_filtered_of_failed state short]
  · rw [sampleSensor_of_faulty (by omega), faultySample_filtered]

/-- Settles O17: the laws of one step, the induction on the distance to the reading, and the laws of a sample. -/
theorem filterSettlesOnTheReading : Obligations.FilterSettlesOnTheReading := by
  intro F T
  refine ⟨?equal, fun rising => ⟨filterStep_of_lt rising, filterStep_le_of_lt rising⟩,
    fun falling => ⟨filterStep_of_gt falling, le_filterStep_of_gt falling⟩,
    iterate_filterStep_of_natAbs_le T _ F le_rfl, fun trim r x held => ⟨?stepped, ?faulty, ?failed⟩⟩
  case equal =>
    rintro rfl
    exact filterStep_self F
  case stepped =>
    intro state low high
    rw [sampleSensor_of_valid low high]
    exact validSample_filtered_of_valid state held (convert r trim)
  case faulty =>
    intro faulty
    rw [sampleSensor_of_faulty faulty, faultySample_filtered, held]
  case failed =>
    intro state short
    rw [sampleSensor_filtered_of_failed state short, held]

end Sys2Proof.Machine
end


section
/-! The pass table: what it is to fit (R93), the first entry that fits (R94), its hit (R94, R107), and the default actions (R95). -/

namespace Sys2Proof.Machine

/-! ## Matching (R93, R94) -/

/-- Two of R93's tests have cases: the direction names the address that the node is held against, and an empty payload has no selector. -/
theorem fits_iff (d : PassDef) (dir : Direction) (f : Frame) (phase : Phase) :
    fits d dir f phase = true ↔
      d.active = true ∧ d.direction = dir
      ∧ (d.nodeAny = true ∨ d.node = (if dir = .down then f.dst else f.src))
      ∧ f.cls &&& d.clsMask = d.clsValue
      ∧ (d.selectorPresent = true → f.payload.head? = some d.selector)
      ∧ d.phases.getLsbD (phase.code - 1) = true := by
  simp only [fits, inPhaseSet, Bool.and_eq_true, beq_iff_eq, and_assoc]
  refine and_congr .rfl (and_congr .rfl (and_congr ?node (and_congr .rfl (and_congr ?selector .rfl))))
  case node => cases dir <;> simp
  case selector => cases d.selectorPresent <;> cases f.payload <;> simp

theorem firstFit_eq_some {l : List PassDef} {dir : Direction} {f : Frame} {phase : Phase} {i : Nat}
    (fit : (l[i]?).any (fits · dir f phase) = true) (earlier : ∀ j < i, (l[j]?).any (fits · dir f phase) = false) :
    firstFit l dir f phase = some i := by
  obtain ⟨d, entry, fitting⟩ := Option.any_eq_true _ _ |>.mp fit
  obtain ⟨inTable, rfl⟩ := List.getElem?_eq_some_iff.mp entry
  rw [firstFit, List.findIdx?_eq_some_iff_getElem]
  refine ⟨inTable, fitting, fun j before => ?_⟩
  have earlierInTable : j < l.length := before.trans inTable
  simpa [earlierInTable] using earlier j before

theorem firstFit_eq_none {l : List PassDef} {dir : Direction} {f : Frame} {phase : Phase}
    (unfit : ∀ i < l.length, (l[i]?).any (fits · dir f phase) = false) : firstFit l dir f phase = none := by
  rw [firstFit, List.findIdx?_eq_none_iff]
  intro d mem
  obtain ⟨i, hi, rfl⟩ := List.getElem_of_mem mem
  simpa [hi] using unfit i hi

/-! ## The hit (R94, R107) -/

theorem inc16_eq_min (n : Nat) : inc16 n = min 65535 (n + 1) := rfl

theorem countHit_of_counts {i : Nat} {s : State} {c : EntryCounts} (counts : s.pass[i]? = some c) :
    countHit i s =
      { s with pass := s.pass.set i { c with hits := min 65535 (c.hits + 1), lastHit := some s.clock.cabinet } } := by
  simp only [countHit, onCounts, counts, inc16_eq_min]

/-! ## The frame (R94, R95) -/

theorem passFrame_of_firstFit_eq_some {dir : Direction} {f : Frame} {s : State} {i : Nat} {d : PassDef}
    (first : firstFit s.cfg.pass dir f s.ctl.phase = some i) (entry : s.cfg.pass[i]? = some d) :
    passFrame dir f s = performAction i d dir f (countHit i s) := by
  simp only [passFrame, first, List.getD_eq_getElem?_getD, entry, Option.getD_some]

theorem passFrame_of_firstFit_eq_none {dir : Direction} {f : Frame} {s : State} (unmatched : firstFit s.cfg.pass dir f s.ctl.phase = none) :
    passFrame dir f s = if defaultAction dir s = .drop then s else forward dir f s := by
  simp only [passFrame, unmatched]
  cases defaultAction dir s <;> rfl

theorem defaultAction_eq_ite (dir : Direction) (s : State) :
    defaultAction dir s = if dir = .down then s.cfg.defaultDown else s.cfg.defaultUp := by
  cases dir <;> rfl

theorem forward_eq_ite (dir : Direction) (f : Frame) (s : State) :
    forward dir f s =
      if dir = .down then (offerDown true { frame := f, mark := .unmarked } s).1
      else if s.lines.pcRst then s else (offerForwarded true f s).1 := by
  cases dir <;> rfl

/-- Settles O37: the six tests, the first index that passes them with its hit, and the default action where none does. -/
theorem firstFittingEntryTakesTheFrame : Obligations.FirstFittingEntryTakesTheFrame := by
  refine ⟨fits_iff, fun dir f s _ => ⟨fun i d c entry counts fit earlier => ?taken, fun unfit => ?unmatched⟩⟩
  case taken =>
    rw [passFrame_of_firstFit_eq_some (firstFit_eq_some fit earlier) entry, countHit_of_counts counts]
  case unmatched =>
    rw [passFrame_of_firstFit_eq_none (firstFit_eq_none unfit), defaultAction_eq_ite, forward_eq_ite]

end Sys2Proof.Machine
end


section
/-! The restart supervisor: which requests it takes (R118), the action it chooses (R119), and the record it keeps (R121). -/

namespace Sys2Proof.Machine

/-! ## Requests taken (R118) -/

/-- A request is ignored by the phase table of R118. -/
def Ignored (c : RestartCause) (p : Phase) : Prop :=
  (p ∈ [.preheat, .powerCycle, .cooldown, .lockout] ∧ c ≠ .overheat) ∨ (p = .restart ∧ c = .chordRestart)

theorem takesRequest_eq_false_iff (c : RestartCause) (p : Phase) : takesRequest c p = false ↔ Ignored c p := by
  cases p <;> simp [takesRequest, Ignored]

theorem request_of_ignored {c : RestartCause} {s : State} (ignored : Ignored c s.ctl.phase) : request c s = s := by
  simp [request, (takesRequest_eq_false_iff c s.ctl.phase).mpr ignored]

theorem request_of_not_ignored {c : RestartCause} {s : State} (taken : ¬ Ignored c s.ctl.phase) :
    request c s = carryOut (chooseAction c s) (addRecord (recordOf c (chooseAction c s) s) s) := by
  rw [← takesRequest_eq_false_iff, Bool.not_eq_false] at taken
  simp only [request, taken, if_true]

/-! ## The action (R119) -/

theorem isCounted_iff (c : RestartCause) :
    isCounted c = true ↔ c ∈ [.bootTimeout, .heartbeatTimeout, .supplyFail, .supplyLoss] := by
  cases c <;> decide

/-- The records of the history that R119 counts for an action: counted, within the window, after the floor. -/
def standing (s : State) (a : RestartAction) : Nat :=
  s.sup.history.countP fun r =>
    decide (r.cause ∈ [.bootTimeout, .heartbeatTimeout, .supplyFail, .supplyLoss] ∧ r.action = a
      ∧ s.clock.uptime ≤ r.uptime + s.cfg.watchdog.window * 60 ∧ s.sup.floor < r.uptime)

theorem countActions_eq_standing (a : RestartAction) (s : State) : countActions a s = standing s a := by
  refine List.countP_congr fun r _ => ?_
  simp only [qualifies, Bool.and_eq_true, decide_eq_true_eq, beq_iff_eq, isCounted_iff]
  tauto

theorem escalated_eq_ite (s : State) :
    escalated s =
      if standing s .reset + 1 < s.cfg.watchdog.k then .reset
      else if standing s .powerCycle + 1 < s.cfg.watchdog.m then .powerCycle
      else .lockout := by
  simp only [escalated, countActions_eq_standing]

theorem chooseAction_eq_ite (c : RestartCause) (s : State) :
    chooseAction c s =
      if c = .commandedReset ∨ c = .chordRestart then .reset
      else if c = .commandedCycle then .powerCycle
      else if c = .overheat then .cooldown
      else if c = .supplyLoss ∧ s.ctl.phase = .restart then .powerCycle
      else escalated s := by
  cases c <;> simp [chooseAction]

/-! ## The record (R121) -/

/-- The ring of eight drops what a ninth record overflows by: nothing while there is room. -/
theorem addRecord_eq_drop (r : RestartRecord) (s : State) :
    addRecord r s =
      { s with sup := { s.sup with
          history := (s.sup.history ++ [r]).drop (s.sup.history.length + 1 - 8), openRecord := true, addedSinceRun := true } } := by
  have kept : (if 8 < (s.sup.history ++ [r]).length then (s.sup.history ++ [r]).drop ((s.sup.history ++ [r]).length - 8)
      else s.sup.history ++ [r]) = (s.sup.history ++ [r]).drop (s.sup.history.length + 1 - 8) := by
    rw [List.length_append, List.length_singleton]
    split
    case isTrue => rfl
    case isFalse room => rw [Nat.sub_eq_zero_of_le (Nat.le_of_not_lt room), List.drop_zero]
  rw [addRecord, kept]

/-- Settles O10: an ignored request leaves the state, and one taken carries out the action chosen after its record joined the ring. -/
theorem requestTakenOrIgnored : Obligations.RequestTakenOrIgnored := by
  intro c s
  refine ⟨request_of_ignored, fun taken => ?_⟩
  rw [request_of_not_ignored taken, addRecord_eq_drop, chooseAction_eq_ite, escalated_eq_ite]
  rfl

end Sys2Proof.Machine
end

section
/-! What a safe event is: it keeps every invariant of Safety.lean. Each operation of the model is shown safe once, by the views of the state that the
invariants read: an operation that leaves a view keeps its invariant. -/

namespace Sys2Proof.Machine

/-! ## What each invariant reads -/

/-- The lines, the timers and the supervision together, as one step keeps them (R1, R2, R112). -/
def Supervised (s : State) : Prop := LinesFollowPhase s ∧ TimersFollowPhase s ∧ SupervisorFollowsPhase s

/-- In RUN PC_RST# is released: what the queues rest on of the lines (R1, R89). -/
def RunReleased (s : State) : Prop := s.powered = true → s.ctl.phase = .run → s.lines.pcRst = false

theorem LinesFollowPhase.runReleased {s : State} (h : LinesFollowPhase s) : RunReleased s := by
  intro hp run
  simp only [LinesFollowPhase, hp, run, if_true] at h
  exact h.2

/-- What `RunReleased` reads. -/
def resetView (s : State) : Bool × Bool × Phase := (s.powered, s.lines.pcRst, s.ctl.phase)

/-- What `LinesFollowPhase` reads. -/
def linesView (s : State) : Bool × Bool × Bool × Phase := (s.lines.pwrEn, resetView s)

/-- What `Supervised` reads beside the lines. -/
def timersView (s : State) :=
  (s.ctl.warmUp, s.ctl.wait, s.ctl.stability, s.ctl.supplyLoss, s.ctl.resetPulse, s.ctl.offTime, s.sup.deadline, s.sup.suspension, s.sup.arm)

/-- What `QueuesInBounds` reads beside the lines. -/
def queuesView (s : State) :=
  (s.link.down, s.link.up, s.link.b.stalled, s.link.c.stalled, s.keys.queue, s.keys.loss, s.note.outstanding, s.sup.history.length)

/-- What `EscalationBounded` reads. -/
def escalationView (s : State) := (s.clock.uptime, s.sup.history, s.sup.floor, s.cfg.watchdog)

/-- What `SettingsInRange` reads. -/
def settingsView (s : State) := (s.cfg, s.store)

/-- What `SensorsSound` reads. -/
def sensorsView (s : State) :=
  (s.sens.air, s.sens.display, s.sens.board, s.sens.effAir, s.sens.effDisplay, s.sens.effBoard)

/-- What `PowerInBudget` reads of a heater. -/
def heaterView (x : Heater) : Nat × Nat × ChannelState := (x.ch.applied, x.base, x.ch.state)

/-- What `PowerInBudget` reads beside the phase. -/
def powerView (s : State) :=
  (s.bud.last, s.cfg.budget.bTot, heaterView s.chan.h0, heaterView s.chan.h1, s.chan.fan.ch.applied, s.chan.fan.ch.state, s.chan.inhibit)

theorem linesFollowPhase_of_view {s t : State} (h : linesView t = linesView s) (hs : LinesFollowPhase s) : LinesFollowPhase t := by
  simp only [linesView, resetView, Prod.mk.injEq] at h
  obtain ⟨hen, hpow, hrst, hph⟩ := h
  simpa only [LinesFollowPhase, hpow, hen, hrst, hph] using hs

theorem runReleased_of_view {s t : State} (h : resetView t = resetView s) (hs : RunReleased s) : RunReleased t := by
  simp only [resetView, Prod.mk.injEq] at h
  obtain ⟨hpow, hrst, hph⟩ := h
  simpa only [RunReleased, hpow, hrst, hph] using hs

theorem supervised_of_view {s t : State} (hl : linesView t = linesView s) (h : timersView t = timersView s) (hs : Supervised s) :
    Supervised t := by
  simp only [timersView, linesView, resetView, Prod.mk.injEq] at h hl
  obtain ⟨hwarm, hwait, hstab, hloss, hpulse, hoff, hdead, hsusp, harm⟩ := h
  obtain ⟨hen, hpow, hrst, hph⟩ := hl
  simpa only [Supervised, LinesFollowPhase, TimersFollowPhase, SupervisorFollowsPhase, hpow, hen, hrst, hph, hwarm, hwait, hstab, hloss,
    hpulse, hoff, hdead, hsusp, harm] using hs

theorem queuesInBounds_of_view {s t : State} (hl : resetView t = resetView s) (h : queuesView t = queuesView s) (hs : QueuesInBounds s) :
    QueuesInBounds t := by
  simp only [queuesView, resetView, Prod.mk.injEq] at h hl
  obtain ⟨hdown, hup, hb, hc, hkeys, hloss, hout, hhist⟩ := h
  obtain ⟨hpow, hrst, hph⟩ := hl
  simpa only [QueuesInBounds, rankCount, hpow, hrst, hph, hdown, hup, hb, hc, hkeys, hloss, hout, hhist] using hs

theorem escalationBounded_of_view {s t : State} (h : escalationView t = escalationView s) (hs : EscalationBounded s) :
    EscalationBounded t := by
  simp only [escalationView, Prod.mk.injEq] at h
  obtain ⟨hup, hhist, hfloor, hw⟩ := h
  simpa only [EscalationBounded, resetsInWindow, hup, hhist, hfloor, hw] using hs

theorem settingsInRange_of_view {s t : State} (h : settingsView t = settingsView s) (hs : SettingsInRange s) : SettingsInRange t := by
  simp only [settingsView, Prod.mk.injEq] at h
  obtain ⟨hcfg, hstore⟩ := h
  simpa only [SettingsInRange, hcfg, hstore] using hs

theorem sensorsSound_of_view {s t : State} (h : sensorsView t = sensorsView s) (hs : SensorsSound s) : SensorsSound t := by
  simp only [sensorsView, Prod.mk.injEq] at h
  obtain ⟨ha, hd, hb, hea, hed, heb⟩ := h
  simpa only [SensorsSound, ha, hd, hb, hea, hed, heb] using hs

theorem powerInBudget_of_view {s t : State} (hph : t.ctl.phase = s.ctl.phase) (h : powerView t = powerView s) (hs : PowerInBudget s) :
    PowerInBudget t := by
  simp only [powerView, heaterView, Prod.mk.injEq] at h
  obtain ⟨hlast, htot, ⟨ha0, hb0, hs0⟩, ⟨ha1, hb1, hs1⟩, haf, hsf, hinh⟩ := h
  simpa only [PowerInBudget, heaterSound, hph, hlast, htot, ha0, hb0, hs0, ha1, hb1, hs1, haf, hsf, hinh] using hs

/-! ## Safe events -/

/-- The invariants of `s` hold of `t` too, but for those of the lines and of the supervision, which a phase entry restores at its end alone. -/
structure Kept (s t : State) : Prop where
  released : RunReleased s → RunReleased t
  queues : RunReleased s → QueuesInBounds s → QueuesInBounds t
  escalation : EscalationBounded s → EscalationBounded t
  settings : SettingsInRange s → SettingsInRange t
  sensors : SensorsSound s → SensorsSound t
  power : PowerInBudget s → PowerInBudget t

/-- An event that leads from `s` to `t` within the operating range keeps every invariant. -/
structure Safe (s t : State) : Prop extends Kept s t where
  lines : LinesFollowPhase s → LinesFollowPhase t
  supervised : Supervised s → Supervised t
  powered : t.powered = s.powered

theorem Kept.refl (s : State) : Kept s s := ⟨id, fun _ => id, id, id, id, id⟩

theorem Safe.refl (s : State) : Safe s s := ⟨Kept.refl s, id, id, rfl⟩

theorem Kept.trans {s t u : State} (h : Kept s t) (k : Kept t u) : Kept s u where
  released := k.released ∘ h.released
  queues hr hq := k.queues (h.released hr) (h.queues hr hq)
  escalation := k.escalation ∘ h.escalation
  settings := k.settings ∘ h.settings
  sensors := k.sensors ∘ h.sensors
  power := k.power ∘ h.power

theorem Safe.trans {s t u : State} (h : Safe s t) (k : Safe t u) : Safe s u :=
  ⟨h.toKept.trans k.toKept, k.lines ∘ h.lines, k.supervised ∘ h.supervised, k.powered.trans h.powered⟩

/-- Two events one after the other, the last one named first: what it starts from follows from its name. -/
theorem Safe.after {s t u : State} (k : Safe t u) (h : Safe s t) : Safe s u := h.trans k

/-- The same for a last event that rests on the supply being in its range. -/
theorem Safe.afterOn {s t u : State} (hp : s.powered = true) (k : t.powered = true → Safe t u) (h : Safe s t) : Safe s u :=
  h.trans (k (h.powered.trans hp))

theorem Safe.ite {s t u : State} {p : Prop} [Decidable p] (ht : p → Safe s t) (hu : ¬ p → Safe s u) : Safe s (if p then t else u) := by
  split
  · exact ht ‹_›
  · exact hu ‹_›

/-- An event that leaves everything the invariants read, but for the timers and the supervision. -/
theorem Kept.of {s t : State} (same : (resetView t, queuesView t, escalationView t, settingsView t, sensorsView t, powerView t)
    = (resetView s, queuesView s, escalationView s, settingsView s, sensorsView s, powerView s)) : Kept s t := by
  simp only [Prod.mk.injEq] at same
  obtain ⟨reset, queues, escalation, settings, sensors, power⟩ := same
  exact ⟨runReleased_of_view reset, fun _ => queuesInBounds_of_view reset queues, escalationBounded_of_view escalation,
    settingsInRange_of_view settings, sensorsSound_of_view sensors, powerInBudget_of_view (congrArg (fun v => v.2.2) reset) power⟩

/-- An event within a phase, by its parts. -/
theorem Safe.of_parts {s t : State} (view : linesView t = linesView s) (supervised : Supervised s → Supervised t)
    (queues : RunReleased s → QueuesInBounds s → QueuesInBounds t) (escalation : EscalationBounded s → EscalationBounded t)
    (settings : SettingsInRange s → SettingsInRange t) (sensors : SensorsSound s → SensorsSound t)
    (power : PowerInBudget s → PowerInBudget t) : Safe s t where
  released := runReleased_of_view (congrArg Prod.snd view)
  lines := linesFollowPhase_of_view view
  supervised := supervised
  queues := queues
  escalation := escalation
  settings := settings
  sensors := sensors
  power := power
  powered := congrArg (fun v => v.2.1) view

theorem powerInBudget_of_views {s t : State} (view : linesView t = linesView s) (power : powerView t = powerView s) :
    PowerInBudget s → PowerInBudget t := powerInBudget_of_view (congrArg (fun v => v.2.2.2) view) power

/-- An event that leaves everything the invariants read. -/
theorem Safe.of {s t : State}
    (same : (linesView t, timersView t, queuesView t, escalationView t, settingsView t, sensorsView t, powerView t)
      = (linesView s, timersView s, queuesView s, escalationView s, settingsView s, sensorsView s, powerView s)) : Safe s t := by
  simp only [Prod.mk.injEq] at same
  obtain ⟨lines, timers, queues, escalation, settings, sensors, power⟩ := same
  exact .of_parts lines (supervised_of_view lines timers) (fun _ => queuesInBounds_of_view (congrArg Prod.snd lines) queues)
    (escalationBounded_of_view escalation) (settingsInRange_of_view settings) (sensorsSound_of_view sensors)
    (powerInBudget_of_views lines power)

/-- An event that leaves everything the invariants read but the timers and the supervision. -/
theorem Safe.of_supervised {s t : State}
    (same : (linesView t, queuesView t, escalationView t, settingsView t, sensorsView t, powerView t)
      = (linesView s, queuesView s, escalationView s, settingsView s, sensorsView s, powerView s))
    (supervised : Supervised s → Supervised t) : Safe s t := by
  simp only [Prod.mk.injEq] at same
  obtain ⟨lines, queues, escalation, settings, sensors, power⟩ := same
  exact .of_parts lines supervised (fun _ => queuesInBounds_of_view (congrArg Prod.snd lines) queues)
    (escalationBounded_of_view escalation) (settingsInRange_of_view settings) (sensorsSound_of_view sensors)
    (powerInBudget_of_views lines power)

/-- An event that leaves everything the invariants read but the queues. -/
theorem Safe.of_queues {s t : State}
    (same : (linesView t, timersView t, escalationView t, settingsView t, sensorsView t, powerView t)
      = (linesView s, timersView s, escalationView s, settingsView s, sensorsView s, powerView s))
    (queues : RunReleased s → QueuesInBounds s → QueuesInBounds t) : Safe s t := by
  simp only [Prod.mk.injEq] at same
  obtain ⟨lines, timers, escalation, settings, sensors, power⟩ := same
  exact .of_parts lines (supervised_of_view lines timers) queues (escalationBounded_of_view escalation) (settingsInRange_of_view settings)
    (sensorsSound_of_view sensors) (powerInBudget_of_views lines power)

/-- An event that leaves everything the invariants read but uptime, the history, the floor and the settings of the escalation. -/
theorem Safe.of_escalation {s t : State}
    (same : (linesView t, timersView t, queuesView t, settingsView t, sensorsView t, powerView t)
      = (linesView s, timersView s, queuesView s, settingsView s, sensorsView s, powerView s))
    (escalation : EscalationBounded s → EscalationBounded t) : Safe s t := by
  simp only [Prod.mk.injEq] at same
  obtain ⟨lines, timers, queues, settings, sensors, power⟩ := same
  exact .of_parts lines (supervised_of_view lines timers) (fun _ => queuesInBounds_of_view (congrArg Prod.snd lines) queues) escalation
    (settingsInRange_of_view settings) (sensorsSound_of_view sensors) (powerInBudget_of_views lines power)

/-- An event that leaves everything the invariants read but the settings and the store. -/
theorem Safe.of_settings {s t : State}
    (same : (linesView t, timersView t, queuesView t, escalationView t, sensorsView t, powerView t)
      = (linesView s, timersView s, queuesView s, escalationView s, sensorsView s, powerView s))
    (settings : SettingsInRange s → SettingsInRange t) : Safe s t := by
  simp only [Prod.mk.injEq] at same
  obtain ⟨lines, timers, queues, escalation, sensors, power⟩ := same
  exact .of_parts lines (supervised_of_view lines timers) (fun _ => queuesInBounds_of_view (congrArg Prod.snd lines) queues)
    (escalationBounded_of_view escalation) settings (sensorsSound_of_view sensors) (powerInBudget_of_views lines power)

/-- An event that leaves everything the invariants read but the sensor unit. -/
theorem Safe.of_sensors {s t : State}
    (same : (linesView t, timersView t, queuesView t, escalationView t, settingsView t, powerView t)
      = (linesView s, timersView s, queuesView s, escalationView s, settingsView s, powerView s))
    (sensors : SensorsSound s → SensorsSound t) : Safe s t := by
  simp only [Prod.mk.injEq] at same
  obtain ⟨lines, timers, queues, escalation, settings, power⟩ := same
  exact .of_parts lines (supervised_of_view lines timers) (fun _ => queuesInBounds_of_view (congrArg Prod.snd lines) queues)
    (escalationBounded_of_view escalation) (settingsInRange_of_view settings) sensors (powerInBudget_of_views lines power)

/-- An event that leaves everything the invariants read but the channels and the last allocation. -/
theorem Safe.of_power {s t : State}
    (same : (linesView t, timersView t, queuesView t, escalationView t, settingsView t, sensorsView t)
      = (linesView s, timersView s, queuesView s, escalationView s, settingsView s, sensorsView s))
    (power : PowerInBudget s → PowerInBudget t) : Safe s t := by
  simp only [Prod.mk.injEq] at same
  obtain ⟨lines, timers, queues, escalation, settings, sensors⟩ := same
  exact .of_parts lines (supervised_of_view lines timers) (fun _ => queuesInBounds_of_view (congrArg Prod.snd lines) queues)
    (escalationBounded_of_view escalation) (settingsInRange_of_view settings) (sensorsSound_of_view sensors) power

end Sys2Proof.Machine
end

section
/-! Safe events of the flags, the ports and the two frame queues (R83, R84, R86 to R89). -/

namespace Sys2Proof.Machine

/-! ## Flags and counters -/

theorem raise_safe (c : Cause) (s : State) : Safe s (raise c s) := .of rfl

theorem raiseIf_safe (b : Bool) (c : Cause) (s : State) : Safe s (raiseIf b c s) := .ite (fun _ => raise_safe c s) fun _ => .refl s

/-- A channel record replaced by one of the same duty and state. -/
theorem setChannel_safe (c : ChannelId) {x : Channel} {s : State} (ha : x.applied = (channelOf c s).applied)
    (hst : x.state = (channelOf c s).state) : Safe s (setChannel c x s) := by
  have view : powerView (setChannel c x s) = powerView s := by
    cases c <;> simp only [channelOf] at ha hst <;> simp only [powerView, heaterView, setChannel, ha, hst]
  cases c <;> exact .of_power rfl (powerInBudget_of_view rfl view)

theorem refreshSummary_safe (c : ChannelId) (s : State) : Safe s (refreshSummary c s) :=
  Safe.after (raiseIf_safe ..) (setChannel_safe c rfl rfl)

theorem refreshSummaries_safe (s : State) : Safe s (refreshSummaries s) :=
  (refreshSummary_safe .h0 s).trans ((refreshSummary_safe .h1 _).trans (refreshSummary_safe .fan _))

theorem flagCondition_safe (c : ChannelId) (bit : BitVec 3) (s : State) : Safe s (flagCondition c bit s) :=
  Safe.after (refreshSummary_safe ..) (setChannel_safe c rfl rfl)

/-- A port record replaced by one that is STALLED as it was. -/
theorem setPort_safe (p : PortId) {x : Port} {s : State} (h : x.stalled = (portOf p s).stalled) : Safe s (setPort p x s) := by
  have view : queuesView (setPort p x s) = queuesView s := by
    cases p <;> simp only [portOf] at h <;> simp only [queuesView, setPort, h]
  cases p <;> exact .of_queues rfl (fun _ => queuesInBounds_of_view rfl view)

theorem countOn_safe (p : PortId) (f : Counters → Counters) (s : State) : Safe s (countOn p f s) := setPort_safe p rfl

theorem syncStall_safe (p : PortId) (s : State) : Safe s (syncStall p s) := setPort_safe p rfl

theorem putSending_safe (p : PortId) (f : Frame) (s : State) : Safe s (putSending p f s) := setPort_safe p rfl

theorem emptyAssembly_safe (p : PortId) (s : State) : Safe s (emptyAssembly p s) := setPort_safe p rfl

/-! ## The downstream queue -/

/-- The downstream queue replaced: by no more than it may hold, and by none while the B-port is STALLED. -/
theorem setDown_safe {q : List DownFrame} {s : State} (room : s.link.down.length ≤ 8 → q.length ≤ 8)
    (shed : s.link.b.stalled = true → s.link.down = [] → q = []) : Safe s (setDown q s) :=
  .of_queues rfl (fun _ ⟨hd, hb, rest⟩ => ⟨room hd, fun h => shed h (hb h), rest⟩)

theorem setDown_safe_of_sublist {q : List DownFrame} {s : State} (h : q.Sublist s.link.down) : Safe s (setDown q s) :=
  setDown_safe h.length_le.trans fun _ e => List.sublist_nil.mp (e ▸ h)

theorem offerDown_safe (received : Bool) (f : DownFrame) (s : State) : Safe s (offerDown received f s).1 := by
  unfold offerDown
  split
  · exact countOn_safe .b _ s
  · split
    next hst room =>
      refine setDown_safe (fun _ => ?_) fun h => absurd h hst
      rw [List.length_append, List.length_singleton]
      omega
    · split
      · exact (countOn_safe ..).trans (raise_safe ..)
      · exact .refl s

theorem supersede_safe (s : State) : Safe s (supersede s) := setDown_safe_of_sublist List.filter_sublist

/-! ## The upstream queue -/

/-- The upstream queue with its oldest or some other frames gone keeps its bounds (R84, R88, R89). -/
theorem setUp_safe_of_sublist {q : List UpFrame} {s : State} (h : q.Sublist s.link.up) : Safe s (setUp q s) :=
  .of_queues rfl (fun _ ⟨hd, hb, hu, hn, hk, hf, hq, hrun, hrst, hhist⟩ =>
    ⟨hd, hb, h.length_le.trans hu, h.countP_le.trans hn, h.countP_le.trans hk,
      fun hc => Nat.le_zero.mp (h.countP_le.trans (hf hc).le), hq, hrun, fun hp hr => List.sublist_nil.mp ((hrst hp hr) ▸ h), hhist⟩)

/-- How many frames of a rank stand in the queue once one has joined it. -/
theorem rankCount_append (r : Rank) (f : UpFrame) (s : State) :
    (s.link.up ++ [f]).countP (fun g => g.rank == r) = rankCount r s + if f.rank = r then 1 else 0 := by
  rw [rankCount, List.countP_append, List.countP_singleton]
  simp only [beq_iff_eq]

/-- A frame that joins the upstream queue with PC_RST# released, where its rank has room (R84, R88, R89). -/
theorem setUp_append_safe {f : UpFrame} {s : State} (hr : RunReleased s → s.powered = true → s.lines.pcRst = false) (hu : s.link.up.length ≤ 11)
    (hn : f.rank = .notice → rankCount .notice s = 0) (hk : f.rank = .key → rankCount .key s ≤ 3)
    (hf : f.rank = .forwarded → s.link.c.stalled = false) : Safe s (setUp (s.link.up ++ [f]) s) := by
  refine .of_queues rfl (fun hl ⟨hd, hb, _, hn', hk', hf', hq, hrun, _, hhist⟩ =>
    ⟨hd, hb, ?length, ?notice, ?key, fun hc => ?forwarded, hq, hrun, fun hp hrst => ?released, hhist⟩)
  case length =>
    rw [setUp_up, List.length_append, List.length_singleton]
    omega
  case notice =>
    rw [rankCount, setUp_up, rankCount_append]
    split
    · rw [hn ‹_›]
    · exact hn'
  case key =>
    rw [rankCount, setUp_up, rankCount_append]
    split
    · exact Nat.succ_le_succ (hk ‹_›)
    · exact hk'
  case forwarded =>
    have notForwarded : f.rank ≠ .forwarded := fun h => by
      have stalled : s.link.c.stalled = true := hc
      rw [hf h] at stalled
      exact absurd stalled (by decide)
    rw [rankCount, setUp_up, rankCount_append, if_neg notForwarded]
    exact hf' hc
  case released =>
    have asserted : s.lines.pcRst = true := hrst
    rw [hr hl hp] at asserted
    exact absurd asserted (by decide)

theorem offerForwarded_safe (received : Bool) (f : Frame) {s : State} (hr : s.lines.pcRst = false) :
    Safe s (offerForwarded received f s).1 := by
  unfold offerForwarded
  split
  · exact countOn_safe .c _ s
  · split
    next hst room =>
      exact setUp_append_safe (fun _ _ => hr) (Nat.le_succ_of_le room) (fun h => nomatch h) (fun h => nomatch h) fun _ => Bool.eq_false_iff.mpr hst
    · split
      · exact (countOn_safe ..).trans (raise_safe ..)
      · exact .refl s

theorem reply_safe (cls : Byte) (r : Result) (data : List Byte) {s : State} (hr : s.lines.pcRst = false) (hu : s.link.up.length ≤ 11) :
    Safe s (reply cls r data s) :=
  setUp_append_safe (fun _ _ => hr) hu (fun h => nomatch h) (fun h => nomatch h) fun h => nomatch h

theorem refuse_safe (cls : Byte) (r : Result) {s : State} (hr : s.lines.pcRst = false) (hu : s.link.up.length ≤ 11) :
    Safe s (refuse cls r s) := reply_safe cls r [] hr hu

/-! ## Stalls and the link reset (R81, R87, R88) -/

theorem stallB_safe (s : State) : Safe s (stallB s) :=
  .of_queues rfl (fun _ ⟨_, _, rest⟩ => ⟨Nat.zero_le _, fun _ => rfl, rest⟩)

theorem stallC_safe (s : State) : Safe s (stallC s) := by
  have none_forwarded : (s.link.up.filter fun f => !isForwarded f).countP (fun f => f.rank == .forwarded) = 0 := by
    rw [List.countP_filter]
    refine List.countP_eq_zero.mpr fun f _ => ?_
    simp only [isForwarded]
    cases f.rank == .forwarded <;> decide
  have kept := List.filter_sublist (p := fun f => !isForwarded f) (l := s.link.up)
  exact .of_queues rfl (fun _ ⟨hd, hb, hu, hn, hk, _, hq, hrun, hrst, hhist⟩ =>
    ⟨hd, hb, kept.length_le.trans hu, kept.countP_le.trans hn, kept.countP_le.trans hk, fun _ => none_forwarded, hq, hrun,
      fun hp hr => List.sublist_nil.mp ((hrst hp hr) ▸ kept), hhist⟩)

theorem stallPort_safe (p : PortId) (s : State) : Safe s (stallPort p s) := by
  cases p
  · exact stallC_safe s
  · exact stallB_safe s

theorem linkReset_safe (s : State) : Safe s (linkReset s) := by
  refine .of_parts rfl ?supervised ?queues (escalationBounded_of_view rfl) (settingsInRange_of_view rfl) (sensorsSound_of_view rfl) (powerInBudget_of_view rfl rfl)
  case supervised =>
    rintro ⟨hl, ht, hd, hs, -⟩
    exact ⟨hl, ht, hd, hs, fun h => absurd h Bool.false_ne_true⟩
  case queues =>
    rintro - ⟨-, -, -, -, -, -, hq, hrun, -, hhist⟩
    exact ⟨Nat.zero_le _, fun _ => rfl, Nat.zero_le _, Nat.zero_le _, Nat.zero_le _, fun _ => rfl, hq,
      fun h => ⟨(hrun h).1, (hrun h).2.1, rfl⟩, fun _ _ => rfl, hhist⟩

/-- A port that ceases to be STALLED sheds nothing more (R87). -/
theorem unstall_safe (p : PortId) (s : State) : Safe s (setPort p { portOf p s with stalled := false } s) := by
  cases p
  case c =>
    refine .of_queues rfl ?_
    rintro - ⟨hd, hb, hu, hn, hk, -, rest⟩
    exact ⟨hd, hb, hu, hn, hk, fun h => absurd h Bool.false_ne_true, rest⟩
  case b =>
    refine .of_queues rfl ?_
    rintro - ⟨hd, -, rest⟩
    exact ⟨hd, fun h => absurd h Bool.false_ne_true, rest⟩

end Sys2Proof.Machine
end

section
/-! Safe events of the key event queue, the NOTICE and the deliveries (R137 to R140, R150). -/

namespace Sys2Proof.Machine

theorem admitEvent_safe (delivering : Bool) (e : KeyEvent) (s : State) : Safe s (admitEvent delivering e s) := by
  unfold admitEvent
  refine .ite (fun _ => .refl s) fun hrun => .ite (fun _ => .refl s) fun _ => .ite (fun _ => .refl s) fun _ => .ite (fun _ => .refl s)
    fun _ => .ite (fun _ => .refl s) fun _ => ?_
  have run : s.ctl.phase = .run := by simpa using hrun
  refine .ite (fun _ => Safe.after (raise_safe ..) ?lost) fun room => ?joined
  case lost =>
    refine .of_queues rfl ?_
    rintro - ⟨hd, hb, hu, hn, hk, hf, hq, -, rest⟩
    exact ⟨hd, hb, hu, hn, hk, hf, hq, fun h => absurd run h, rest⟩
  case joined =>
    refine .of_queues rfl ?_
    rintro - ⟨hd, hb, hu, hn, hk, hf, -, -, rest⟩
    refine ⟨hd, hb, hu, hn, hk, hf, ?_, fun h => absurd run h, rest⟩
    simp only [List.length_append, List.length_singleton]
    omega

theorem offerMade_safe (p : Nat) (code : Byte) (m : Option Made) (coldPress coldRel : Bool) (s : State) :
    Safe s (offerMade p code m coldPress coldRel s) := by
  cases m
  · exact .refl s
  · exact admitEvent_safe ..

/-- The resync SNAPSHOT joins a queue of at most 8, and only in RUN is an event ever lost (R139). -/
theorem resyncTest_safe (s : State) : Safe s (resyncTest s) := by
  unfold resyncTest
  refine .ite (fun due => .of_queues rfl ?_) fun _ => .refl s
  obtain ⟨lost, short⟩ : s.keys.loss = true ∧ s.keys.queue.length ≤ 8 := by simpa using due
  rintro - ⟨hd, hb, hu, hn, hk, hf, -, hrun, rest⟩
  refine ⟨hd, hb, hu, hn, hk, hf, ?_, fun h => absurd lost (by rw [(hrun h).2.1]; decide), rest⟩
  simp only [List.length_append, List.length_singleton]
  omega

/-- The head of the key event queue taken. -/
theorem takeHead_safe {e : KeyEvent} {rest : List KeyEvent} {s : State} (h : s.keys.queue = e :: rest) :
    Safe s { s with keys.queue := rest } := by
  refine .of_queues rfl ?_
  rintro - ⟨hd, hb, hu, hn, hk, hf, hq, hrun, more⟩
  rw [h] at hq hrun
  exact ⟨hd, hb, hu, hn, hk, hf, Nat.le_of_succ_le hq, fun k => absurd (hrun k).1 (List.cons_ne_nil _ _), more⟩

theorem deliverKey_safe (s : State) : Safe s (deliverKey s) := by
  unfold deliverKey
  split
  · exact .refl s
  next e rest head =>
    refine .ite (fun due => ?_) fun _ => .refl s
    simp only [keyDue, Bool.and_eq_true, beq_iff_eq, decide_eq_true_eq] at due
    obtain ⟨⟨⟨run, -⟩, few⟩, room⟩ := due
    refine Safe.after (resyncTest_safe ..) <| (takeHead_safe head).trans ?_
    exact setUp_append_safe (fun hr hp => hr hp run) (Nat.le_succ_of_le room) (fun h => nomatch h)
      (fun _ => Nat.le_of_lt_succ few) fun h => nomatch h

theorem sendNotice_safe (s : State) : Safe s (sendNotice s) := by
  unfold sendNotice
  refine .ite (fun due => ?_) fun _ => .refl s
  simp only [noticeDue, Bool.and_eq_true, beq_iff_eq, decide_eq_true_eq] at due
  obtain ⟨⟨⟨⟨run, -⟩, -⟩, room⟩, none_waits⟩ := due
  refine Safe.trans (t := { s with note.outstanding := true }) (.of_queues rfl ?_) ?_
  · rintro - ⟨hd, hb, hu, hn, hk, hf, hq, -, rest⟩
    exact ⟨hd, hb, hu, hn, hk, hf, hq, fun h => absurd run h, rest⟩
  · exact setUp_append_safe (fun hr hp => hr hp run) (Nat.le_succ_of_le room) (fun _ => none_waits)
      (fun h => nomatch h) fun h => nomatch h

theorem deliverKeys_safe (s : State) : Safe s (deliverKeys s) :=
  (deliverKey_safe s).trans <| (deliverKey_safe _).trans <| (deliverKey_safe _).trans (deliverKey_safe _)

/-- The deliveries that end an event are safe. -/
theorem settle_safe (s : State) : Safe s (settle s) := (sendNotice_safe s).trans (deliverKeys_safe _)

/-- An event with its deliveries is as safe as the event. -/
theorem Safe.settled {s t : State} (h : Safe s t) : Safe s (settle t) := h.trans (settle_safe t)

end Sys2Proof.Machine
end

section
/-! The stages of an allocation (R62 to R65): what is granted, what is charged, and that an allocation leaves the power in budget whatever it
starts from. -/

namespace Sys2Proof.Machine

/-! ## Grants and charges -/

theorem grantOf_le (avail p d : Nat) : grantOf avail p d ≤ d := by
  unfold grantOf
  split
  · exact le_rfl
  · exact min_le_left ..

@[simp] theorem grantOf_zero (avail p : Nat) : grantOf avail p 0 = 0 := Nat.le_zero.mp (grantOf_le avail p 0)

/-- The charge of a grant stays within what the grant was made from (R63). -/
theorem chargeOf_grantOf_le (avail p d : Nat) : chargeOf (grantOf avail p d) p ≤ avail := by
  have paid : grantOf avail p d * p ≤ avail * 64 := by
    unfold grantOf
    split
    next free => simp [free]
    · exact (Nat.mul_le_mul_right p (min_le_right ..)).trans (Nat.div_mul_le_self ..)
  unfold chargeOf
  omega

/-- The charge of a level within the budget limit stays within what the limit was made from (R64). -/
theorem levelCharge_le {l avail pBl : Nat} (h : l ≤ budgetLimit avail pBl) : levelCharge l pBl ≤ avail := by
  have paid : l * pBl ≤ avail * 255 := by
    unfold budgetLimit at h
    split at h
    next free => simp [free]
    · exact (Nat.mul_le_mul_right pBl (h.trans (min_le_right ..))).trans (Nat.div_mul_le_self ..)
  unfold levelCharge
  omega

theorem ceilingOf_le_limitOf (i : AllocInput) : ceilingOf i ≤ limitOf i := by
  unfold ceilingOf
  split <;> omega

theorem compChargeOf_le (i : AllocInput) : compChargeOf i ≤ i.params.bTot := by
  unfold compChargeOf
  split
  · exact min_le_right ..
  · exact Nat.zero_le _

/-- The charges together never exceed the total (R65): each stage charges from what the stages before it left. -/
theorem allocationOf_total_le (i : AllocInput) : (allocationOf i).total ≤ i.params.bTot := by
  have comp := compChargeOf_le i
  have fan := chargeOf_grantOf_le (availAfterComp i) i.params.pFan i.dF
  have h1 := chargeOf_grantOf_le (availAfterFan i) i.params.p1 i.d1
  have level := levelCharge_le (ceilingOf_le_limitOf i)
  have h0 := chargeOf_grantOf_le (availAfterLevel i) i.params.p0 i.d0
  simp only [Allocation.total, allocationOf]
  unfold availAfterLevel availAfterH1 availAfterFan availAfterComp at *
  omega

/-! ## Demands (R40, R41, R44) -/

theorem proportional_le (setpoint reading pb : Int) : proportional setpoint reading pb ≤ 64 := by
  unfold proportional
  simp only
  split
  · omega
  · split
    · exact le_rfl
    next pos short =>
      have quotient : 64 * (setpoint - reading) / pb ≤ 64 := Int.ediv_le_of_le_mul (by omega) (by omega)
      omega

theorem heaterDemand_le (phase : Phase) (st : ChannelState) (inhibit : Bool) (reading : Option Int) (run preheat pb : Int) :
    heaterDemand phase st inhibit reading run preheat pb ≤ 64 := by
  unfold heaterDemand
  split_ifs
  · omega
  · omega
  · omega
  all_goals
    cases reading
    · exact Nat.le_of_ble_eq_true rfl
    · exact proportional_le ..

/-- A heater demands nothing in COOLDOWN, LOCKED_OFF, or inhibited (R40). -/
theorem heaterDemand_eq_zero {phase : Phase} {st : ChannelState} {inhibit : Bool}
    (h : phase = .cooldown ∨ st = .lockedOff ∨ inhibit = true) (reading : Option Int) (run preheat pb : Int) :
    heaterDemand phase st inhibit reading run preheat pb = 0 := by
  unfold heaterDemand
  split_ifs <;> first | rfl | simp_all

theorem fanDemand_le (phase : Phase) (st : ChannelState) (running : Bool) (air : Option Int) (tOn tFull : Int) :
    fanDemand phase st running air tOn tFull ≤ 64 := by
  unfold fanDemand
  split
  · omega
  split
  · exact le_rfl
  · cases air with
    | none => exact le_rfl
    | some t =>
      simp only
      split_ifs
      · omega
      · exact le_rfl
      next notFull aboveOn =>
        have quotient : 64 * (t - tOn) / (tFull - tOn) ≤ 64 := Int.ediv_le_of_le_mul (by omega) (by omega)
        omega
      · omega

theorem fanDemand_lockedOff (phase : Phase) (running : Bool) (air : Option Int) (tOn tFull : Int) :
    fanDemand phase .lockedOff running air tOn tFull = 0 := if_pos rfl

/-! ## The allocation is in budget -/

theorem channelStateAfter_eq_lockedOff {st : ChannelState} {inhibited : Bool} {applied : Nat}
    (h : channelStateAfter st inhibited applied = .lockedOff) : st = .lockedOff := by
  unfold channelStateAfter at h
  split_ifs at h
  assumption

theorem channelStateAfter_inhibited_ne_active (st : ChannelState) (applied : Nat) : channelStateAfter st true applied ≠ .active := by
  unfold channelStateAfter
  split_ifs <;> simp_all

/-- The grants applied and recorded: what `allocate` makes of the demands before it counts the limited run and sends a level frame. -/
def granted (a : Allocation) (s : State) : State :=
  { syncSwitches (applyGrants a s) with bud.last := a, bud.back.ceiling := a.ceiling }

theorem allocate_eq_granted (reserve : Bool) (s : State) :
    allocate reserve s =
      judgeUnenforced (sendLevel (countLimited (isLimited (allocInputOf reserve (offerDemands s)))
        (granted (allocationOf (allocInputOf reserve (offerDemands s))) (offerDemands s)))) := rfl

/-- A heater's grant is 0 wherever its demand is 0, and never above 64. -/
theorem heaterSound_of_grant {s : State} {x : Heater} {g d avail p : Nat} {phase : Phase} {st : ChannelState} {inhibit : Bool}
    {reading : Option Int} {run preheat pb : Int} {base : Nat}
    (hg : g = grantOf avail p (rampLimit d base)) (hd : d = heaterDemand phase st inhibit reading run preheat pb)
    (happ : x.ch.applied = g) (hbase : x.base = g) (hst : x.ch.state = channelStateAfter st inhibit g)
    (hph : s.ctl.phase = phase) (hinh : s.chan.inhibit = inhibit) : heaterSound s x g := by
  have bound : g ≤ d := hg ▸ (grantOf_le ..).trans (min_le_left ..)
  have off (h : phase = .cooldown ∨ st = .lockedOff ∨ inhibit = true) : g = 0 :=
    Nat.le_zero.mp (bound.trans (hd.trans (heaterDemand_eq_zero h ..)).le)
  refine ⟨happ.le, happ ▸ bound.trans (hd ▸ heaterDemand_le ..), hbase.trans happ.symm, fun h => ?_, fun h => ⟨?_, ?_⟩, fun h => ?_⟩
  · exact happ.trans (off (.inr (.inl (channelStateAfter_eq_lockedOff (hst ▸ h)))))
  · exact happ.trans (off (.inr (.inr (hinh ▸ h))))
  · rw [hst, show inhibit = true from hinh ▸ h]
    exact channelStateAfter_inhibited_ne_active _ _
  · exact happ.trans (off (.inl (hph ▸ h)))

theorem granted_inBudget (reserve : Bool) (s : State) :
    PowerInBudget (granted (allocationOf (allocInputOf reserve (offerDemands s))) (offerDemands s)) := by
  refine ⟨allocationOf_total_le _, ?h0, ?h1, le_rfl, ?fan, fun h => ?locked⟩
  case h0 => exact heaterSound_of_grant rfl rfl rfl rfl rfl rfl rfl
  case h1 => exact heaterSound_of_grant rfl rfl rfl rfl rfl rfl rfl
  case fan => exact (grantOf_le ..).trans (fanDemand_le ..)
  case locked =>
    have lockedBefore : s.chan.fan.ch.state = .lockedOff := channelStateAfter_eq_lockedOff h
    have noDemand : (allocInputOf reserve (offerDemands s)).dF = 0 := by
      simp only [allocInputOf, offerDemands, lockedBefore, fanDemand_lockedOff]
    exact Nat.le_zero.mp ((grantOf_le ..).trans noDemand.le)

theorem offerDemands_safe (s : State) : Safe s (offerDemands s) := .of rfl

/-- An event on the channel unit and the budget unit alone. -/
theorem Safe.ofChannels {s t : State} {c : ChannelUnit} {b : BudgetUnit} (changed : t = { s with chan := c, bud := b })
    (power : PowerInBudget s → PowerInBudget t) : Safe s t := by
  subst changed
  exact .of_power rfl power

theorem syncSwitches_safe (s : State) : Safe s (syncSwitches s) :=
  .ofChannels (syncSwitches_eq s) (powerInBudget_of_view rfl rfl)

theorem granted_safe {a : Allocation} {s : State} (inBudget : PowerInBudget (granted a s)) : Safe s (granted a s) :=
  .ofChannels (c := (granted a s).chan) (b := (granted a s).bud) rfl fun _ => inBudget

theorem countLimited_safe (limited : Bool) (s : State) : Safe s (countLimited limited s) := Safe.after (raiseIf_safe ..) (.of rfl)

theorem judgeUnenforced_safe (s : State) : Safe s (judgeUnenforced s) := .of rfl

theorem setResend_safe (s : State) (r : Bool) : Safe s { s with bud.back.resend := r } := .of rfl

theorem forwardClamped_safe (s : State) (l : Nat) (r c : Bool) :
    Safe s { s with bud.back.lFwd := l, bud.back.resend := r, bud.back.clamped := c } := .of rfl

theorem sendLevel_safe (s : State) : Safe s (sendLevel s) := by
  unfold sendLevel
  simp only
  split
  · exact .refl s
  · refine .ite (fun _ => ?_) fun _ => .refl s
    exact .ite (fun _ => Safe.after (forwardClamped_safe ..) (Safe.after (offerDown_safe ..) (supersede_safe s)))
      fun _ => Safe.after (setResend_safe ..) (Safe.after (offerDown_safe ..) (supersede_safe s))

/-- An allocation is safe, and it brings the power into budget whatever the state before it. -/
theorem allocate_safe (reserve : Bool) (s : State) : Safe s (allocate reserve s) := by
  rw [allocate_eq_granted]
  exact (offerDemands_safe s).trans <| (granted_safe (granted_inBudget reserve s)).trans <| (countLimited_safe ..).trans <| (sendLevel_safe _).trans (judgeUnenforced_safe _)

theorem allocate_inBudget (reserve : Bool) (s : State) : PowerInBudget (allocate reserve s) := by
  rw [allocate_eq_granted]
  exact ((countLimited_safe ..).trans <| (sendLevel_safe _).trans (judgeUnenforced_safe _)).power (granted_inBudget reserve s)

theorem allocateNow_safe (s : State) : Safe s (allocateNow s) := allocate_safe ..

end Sys2Proof.Machine
end

section
/-! Safe phase entries (R1, R2, R7, R11, R13, R16 to R18, R22) and restart requests (R118, R119, R121). -/

namespace Sys2Proof.Machine

/-! ## What an entry starts from -/

/-- A suspension stands in RUN alone: what an entry needs so that none is left once it has left RUN (R115). -/
def SuspendedInRun (s : State) : Prop := s.sup.suspension.isSome = true → s.ctl.phase = .run

theorem Supervised.suspendedInRun {s : State} (h : Supervised s) : SuspendedInRun s := by
  obtain ⟨-, -, hd, hs, -⟩ := h
  intro some_
  have suspended := hs.mp some_
  cases phase : s.ctl.phase <;> simp [phase, suspended] at hd ⊢

/-- As a phase begins no key event waits and no NOTICE is outstanding, whether or not RUN was left (R139, R150). -/
theorem beginPhase_queues (p : Phase) {s : State} (h : QueuesInBounds s) :
    QueuesInBounds (beginPhase p s) ∧ (beginPhase p s).keys.queue = [] ∧ (beginPhase p s).keys.loss = false
      ∧ (beginPhase p s).note.outstanding = false := by
  obtain ⟨hd, hb, hu, hn, hk, hf, -, hrun, hrst, hhist⟩ := h
  have ended : (beginPhase p s).keys.queue = [] ∧ (beginPhase p s).keys.loss = false ∧ (beginPhase p s).note.outstanding = false := by
    rw [beginPhase_eq]
    by_cases run : s.ctl.phase = .run
    · simp only [run, if_true, and_self]
    · simpa only [run, if_false] using hrun run
  refine ⟨?_, ended⟩
  have short : (beginPhase p s).keys.queue.length ≤ 16 := ended.1 ▸ Nat.zero_le 16
  rw [beginPhase_eq] at ended short ⊢
  exact ⟨hd, hb, hu, hn, hk, hf, short, fun _ => ended, hrst, hhist⟩

/-- The suspension is ends once a phase has begun (R115). -/
theorem beginPhase_suspension (p : Phase) {s : State} (h : SuspendedInRun s) : (beginPhase p s).sup.suspension = none := by
  rw [beginPhase_eq]
  by_cases run : s.ctl.phase = .run
  · simp only [run, if_true]
  · simp only [run, if_false]
    exact Option.not_isSome_iff_eq_none.mp fun some_ => run (h some_)

theorem beginPhase_kept {p : Phase} (run : p ≠ .run) (cool : p ≠ .cooldown) (s : State) : Kept s (beginPhase p s) := by
  refine ⟨fun _ _ h => absurd ?_ run, fun _ h => (beginPhase_queues p h).1, ?_, ?_, ?_, ?_⟩
  · rwa [beginPhase_eq] at h
  · exact escalationBounded_of_view (by rw [beginPhase_eq]; rfl)
  · exact settingsInRange_of_view (by rw [beginPhase_eq]; rfl)
  · exact sensorsSound_of_view (by rw [beginPhase_eq]; rfl)
  · rw [beginPhase_eq]
    rintro ⟨htot, ⟨ha0, ht0, hb0, hl0, hi0, -⟩, ⟨ha1, ht1, hb1, hl1, hi1, -⟩, rest⟩
    exact ⟨htot, ⟨ha0, ht0, hb0, hl0, hi0, fun h => absurd h cool⟩, ⟨ha1, ht1, hb1, hl1, hi1, fun h => absurd h cool⟩, rest⟩

/-! ## What an entry sets beside the phase -/

theorem setOrigin_kept (b : Bool) (s : State) : Kept s { s with ctl.originLockout := b } := .of rfl

theorem setOffTime_kept (o : Option Nat) (s : State) : Kept s { s with ctl.offTime := o } := .of rfl

theorem setWarmUp_kept (w : WarmUpTimer) (s : State) : Kept s { s with ctl.warmUp := w } := .of rfl

theorem stopSupervision_kept (s : State) : Kept s (stopSupervision s) := .of rfl

/-- PWR_EN on with its timers (R11, R12). -/
theorem setPowerOn_kept (s : State) (m : List LineMove) (w b : Option Nat) :
    Kept s { s with lines.pwrEn := true, lines.moves := m, ctl.wait := w, ctl.stability := b } := .of rfl

/-- The upstream queue emptied with PC_RST# asserted (R89), in a phase that is not RUN. -/
theorem assertedEmpty_queues {s t : State} (h : QueuesInBounds s) (phase : s.ctl.phase ≠ .run)
    (view : queuesView t = queuesView { s with link.up := [] }) : QueuesInBounds t := by
  obtain ⟨hd, hb, -, -, -, -, hq, hrun, -, hhist⟩ := h
  simp only [queuesView, Prod.mk.injEq] at view
  obtain ⟨vd, vu, vb, vc, vq, vl, vo, vh⟩ := view
  refine ⟨vd ▸ hd, fun h => vd ▸ hb (vb ▸ h), ?_, ?_, ?_, fun _ => ?_, vq ▸ hq, fun _ => ?_, fun _ _ => vu, vh ▸ hhist⟩
  · rw [vu]; exact Nat.zero_le _
  · rw [rankCount, vu]; exact Nat.zero_le _
  · rw [rankCount, vu]; exact Nat.zero_le _
  · rw [rankCount, vu]; rfl
  · obtain ⟨eq, el, eo⟩ := hrun phase
    exact ⟨vq.trans eq, vl.trans el, vo.trans eo⟩

/-! ## Entries with PWR_EN off -/

/-- An entry to a phase with PWR_EN off, up to its allocation. -/
def offBegun (p : Phase) (s : State) : State := setUp [] (powerOff (assertReset (stopSupervision (beginPhase p s))))

theorem enterOff_eq (p : Phase) (s : State) : enterOff p s = allocate false (offBegun p s) := rfl

theorem offBegun_phase (p : Phase) (s : State) : (offBegun p s).ctl.phase = p := by
  rw [offBegun, powerOff_eq, assertReset_eq, beginPhase_eq]; rfl

theorem offBegun_queues {p : Phase} (run : p ≠ .run) {s : State} (h : QueuesInBounds s) : QueuesInBounds (offBegun p s) := by
  have begun := (beginPhase_queues p h).1
  have phase : (beginPhase p s).ctl.phase = p := by rw [beginPhase_eq]
  rw [offBegun, powerOff_eq, assertReset_eq]
  generalize beginPhase p s = u at begun phase
  exact assertedEmpty_queues begun (phase ▸ run) rfl

theorem enterOff_kept {p : Phase} (run : p ≠ .run) (s : State) : Kept s (enterOff p s) where
  released _ _ h := absurd ((enterOff_phase p s).symm.trans h) run
  queues _ h := (allocate_safe false (offBegun p s)).queues (fun _ h => absurd ((offBegun_phase p s).symm.trans h) run) (offBegun_queues run h)
  escalation := escalationBounded_of_view (by simp [escalationView, enterOff, powerOff_eq, assertReset_eq, beginPhase_eq, stopSupervision])
  settings := settingsInRange_of_view (by simp [settingsView, enterOff, powerOff_eq, assertReset_eq, beginPhase_eq, stopSupervision])
  sensors := sensorsSound_of_view (by simp [sensorsView, enterOff, powerOff_eq, assertReset_eq, beginPhase_eq, stopSupervision])
  power _ := allocate_inBudget ..

theorem enterOff_powered (p : Phase) (s : State) : (enterOff p s).powered = s.powered := by
  simp [enterOff, powerOff_eq, assertReset_eq, beginPhase_eq, stopSupervision]

theorem enterOff_followsPhase {p : Phase} (off : pwrEnPhase p = false) (s : State) : LinesFollowPhase (enterOff p s) := by
  have reset : releasedPhase p = false := by cases p <;> first | rfl | exact absurd off (by decide)
  simp [LinesFollowPhase, enterOff_lines, off, reset]

/-- What an entry with PWR_EN off leaves of the supervision (R112, R115, R116). -/
theorem enterOff_sup (p : Phase) {s : State} (h : SuspendedInRun s) :
    (enterOff p s).sup.suspension = none ∧ (enterOff p s).sup.deadline = .stopped ∧ (enterOff p s).sup.arm = none := by
  have ends := beginPhase_suspension p h
  simpa [enterOff, powerOff_eq, assertReset_eq, stopSupervision] using ends

/-- The controller's timers after an entry with PWR_EN off that starts none. -/
theorem enterOff_timers (p : Phase) (s : State) :
    (enterOff p s).ctl.warmUp = .stopped ∧ (enterOff p s).ctl.wait = none ∧ (enterOff p s).ctl.stability = none
      ∧ (enterOff p s).ctl.supplyLoss = none ∧ (enterOff p s).ctl.resetPulse = none ∧ (enterOff p s).ctl.offTime = none := by
  rw [enterOff_ctl, beginPhase_eq]
  exact ⟨rfl, rfl, rfl, rfl, rfl, rfl⟩

/-- A phase with PWR_EN off follows its lines, timers and supervision once its own timer is set. -/
theorem supervised_of_off {p : Phase} {s t : State} (off : pwrEnPhase p = false) (held : SuspendedInRun s)
    (view : linesView t = linesView (enterOff p s)) (sup : t.sup = (enterOff p s).sup)
    (warm : t.ctl.warmUp = .stopped ↔ p ≠ .preheat) (offTime : t.ctl.offTime.isSome = true ↔ p = .powerCycle)
    (rest : t.ctl.wait = none ∧ t.ctl.stability = none ∧ t.ctl.supplyLoss = none ∧ t.ctl.resetPulse = none) : Supervised t := by
  obtain ⟨hwait, hstab, hloss, hpulse⟩ := rest
  obtain ⟨hsusp, hdead, harm⟩ := enterOff_sup p held
  have phase : t.ctl.phase = p := (congrArg (fun v => v.2.2.2) view).trans (enterOff_phase p s)
  refine ⟨linesFollowPhase_of_view view (enterOff_followsPhase off s), ?_, ?_⟩
  · cases p <;> simp_all [TimersFollowPhase, pwrEnPhase]
  · cases p <;> simp_all [SupervisorFollowsPhase, pwrEnPhase]

theorem enterLockout_supervised {s : State} (h : SuspendedInRun s) : Supervised (enterLockout s) := by
  obtain ⟨hwarm, hwait, hstab, hloss, hpulse, hoff⟩ := enterOff_timers .lockout s
  exact supervised_of_off (p := .lockout) rfl h (by rw [enterLockout]) (by rw [enterLockout]) (by simp [enterLockout, hwarm]) (by simp [enterLockout, hoff]) ⟨hwait, hstab, hloss, hpulse⟩

theorem enterCooldown_supervised {s : State} (h : SuspendedInRun s) : Supervised (enterCooldown s) := by
  obtain ⟨hwarm, hwait, hstab, hloss, hpulse, hoff⟩ := enterOff_timers .cooldown
    { s with ctl.originLockout := decide (s.ctl.phase = .lockout) }
  exact supervised_of_off (p := .cooldown) (s := { s with ctl.originLockout := decide (s.ctl.phase = .lockout) }) rfl h
    (by rw [enterCooldown]) (by rw [enterCooldown]) (by simp [enterCooldown, hwarm]) (by simp [enterCooldown, hoff]) ⟨hwait, hstab, hloss, hpulse⟩

theorem enterPowerCycle_supervised {s : State} (h : SuspendedInRun s) : Supervised (enterPowerCycle s) := by
  obtain ⟨hwarm, hwait, hstab, hloss, hpulse, -⟩ := enterOff_timers .powerCycle s
  exact supervised_of_off (p := .powerCycle) rfl h (by simp only [linesView, resetView, enterPowerCycle]) (by simp only [enterPowerCycle])
    (by simp [enterPowerCycle, hwarm]) (by simp [enterPowerCycle]) ⟨hwait, hstab, hloss, hpulse⟩

theorem enterLockout_kept (s : State) : Kept s (enterLockout s) := enterOff_kept (p := .lockout) (by decide) s

theorem enterCooldown_kept (s : State) : Kept s (enterCooldown s) :=
  (setOrigin_kept _ s).trans (enterOff_kept (p := .cooldown) (by decide) _)

theorem enterPowerCycle_kept (s : State) : Kept s (enterPowerCycle s) :=
  (enterOff_kept (p := .powerCycle) (by decide) s).trans (setOffTime_kept _ _)

theorem enterLockout_safe (s : State) : Safe s (enterLockout s) where
  toKept := enterLockout_kept s
  lines _ := enterOff_followsPhase rfl s
  supervised h := enterLockout_supervised h.suspendedInRun
  powered := enterOff_powered ..

/-! ## POWER_ON -/

theorem enterPowerOn_kept (s : State) : Kept s (enterPowerOn s) :=
  (beginPhase_kept (p := .powerOn) (by decide) (by decide) s).trans <|
    (stopSupervision_kept _).trans <|
      (allocate_safe true _).toKept.trans (setPowerOn_kept ..)

theorem enterPowerOn_supervised {s : State} (hp : s.powered = true) (reset : s.lines.pcRst = true) (held : SuspendedInRun s) :
    Supervised (enterPowerOn s) := by
  have ends := beginPhase_suspension .powerOn held
  rw [beginPhase_eq] at ends
  refine ⟨?_, ?_, ?_⟩
  · simp [LinesFollowPhase, enterPowerOn, beginPhase_eq, stopSupervision, hp, reset, pwrEnPhase, releasedPhase]
  · simp only [TimersFollowPhase, enterPowerOn_phase]
    cases h : s.pins.pwrgood <;> simp [enterPowerOn, beginPhase_eq, stopSupervision, h]
  · simp only [SupervisorFollowsPhase, enterPowerOn_phase]
    simpa [enterPowerOn, beginPhase_eq, stopSupervision] using ends

theorem enterPowerOn_powered (s : State) : (enterPowerOn s).powered = s.powered := by
  simp [enterPowerOn, beginPhase_eq, stopSupervision]

theorem LinesFollowPhase.pcRst {s : State} (h : LinesFollowPhase s) (hp : s.powered = true) : s.lines.pcRst = !releasedPhase s.ctl.phase := by
  simp only [LinesFollowPhase, hp, if_true] at h
  exact h.2

theorem LinesFollowPhase.pwrEn {s : State} (h : LinesFollowPhase s) (hp : s.powered = true) : s.lines.pwrEn = pwrEnPhase s.ctl.phase := by
  simp only [LinesFollowPhase, hp, if_true] at h
  exact h.1

/-- An entry to POWER_ON from PREHEAT (R11). -/
theorem enterPowerOn_safe {s : State} (hp : s.powered = true) (preheat : s.ctl.phase = .preheat) : Safe s (enterPowerOn s) where
  toKept := enterPowerOn_kept s
  lines h := by
    have reset : s.lines.pcRst = true := by rw [h.pcRst hp, preheat]; rfl
    simp [LinesFollowPhase, enterPowerOn, beginPhase_eq, stopSupervision, hp, reset, pwrEnPhase, releasedPhase]
  supervised h := enterPowerOn_supervised hp (by rw [h.1.pcRst hp, preheat]; rfl) h.suspendedInRun
  powered := enterPowerOn_powered s

/-! ## PREHEAT -/

/-- PREHEAT entered, up to the soak-complete test made there (R7). -/
def preheatBegun (s : State) : State :=
  { enterOff .preheat s with
    ctl.warmUp := .running ((enterOff .preheat s).clock.now + (enterOff .preheat s).cfg.sensing.warmUpLimit * sec 60) }

theorem enterPreheat_eq (s : State) :
    enterPreheat s = if (preheatBegun s).sens.gate.complete then enterPowerOn (preheatBegun s) else preheatBegun s := rfl

theorem preheatBegun_view (s : State) : linesView (preheatBegun s) = linesView (enterOff .preheat s) := by
  simp only [linesView, resetView, preheatBegun]

theorem preheatBegun_supervised {s : State} (h : SuspendedInRun s) : Supervised (preheatBegun s) := by
  obtain ⟨-, hwait, hstab, hloss, hpulse, hoff⟩ := enterOff_timers .preheat s
  exact supervised_of_off (p := .preheat) rfl h (preheatBegun_view s) (by simp only [preheatBegun])
    (by simp [preheatBegun]) (by simp [preheatBegun, hoff]) ⟨hwait, hstab, hloss, hpulse⟩

theorem preheatBegun_kept (s : State) : Kept s (preheatBegun s) :=
  (enterOff_kept (p := .preheat) (by decide) s).trans (setWarmUp_kept _ _)

theorem preheatBegun_phase (s : State) : (preheatBegun s).ctl.phase = .preheat := by simp [preheatBegun]

theorem enterPreheat_kept (s : State) : Kept s (enterPreheat s) := by
  rw [enterPreheat_eq]
  split
  · exact (preheatBegun_kept s).trans (enterPowerOn_kept _)
  · exact preheatBegun_kept s

/-- PREHEAT may be entered from any phase, and from a power-on reset. -/
theorem enterPreheat_safe {s : State} (hp : s.powered = true) : Safe s (enterPreheat s) := by
  have begun : Safe s (preheatBegun s) :=
    { toKept := preheatBegun_kept s
      lines := fun _ => linesFollowPhase_of_view (preheatBegun_view s) (enterOff_followsPhase (p := .preheat) rfl s)
      supervised := fun h => preheatBegun_supervised h.suspendedInRun
      powered := (congrArg (fun v => v.2.1) (preheatBegun_view s)).trans (enterOff_powered .preheat s) }
  rw [enterPreheat_eq]
  exact .ite (fun _ => begun.trans (enterPowerOn_safe (begun.powered.trans hp) (preheatBegun_phase s))) fun _ => begun

/-! ## BOOT, RUN and RESTART -/

theorem enterBoot_kept (s : State) : Kept s (enterBoot s) := by
  refine (beginPhase_kept (p := .boot) (by decide) (by decide) s).trans ?_
  rw [enterBoot]
  generalize beginPhase .boot s = u
  refine ⟨fun _ _ _ => rfl, ?_, escalationBounded_of_view rfl, settingsInRange_of_view rfl, sensorsSound_of_view rfl, powerInBudget_of_view rfl rfl⟩
  rintro - ⟨hd, hb, hu, hn, hk, hf, hq, hrun, -, hhist⟩
  exact ⟨hd, hb, hu, hn, hk, hf, hq, hrun, fun _ h => absurd h Bool.false_ne_true, hhist⟩

theorem enterBoot_safe {s : State} (hp : s.powered = true) (on : pwrEnPhase s.ctl.phase = true) : Safe s (enterBoot s) := by
  have lines (h : LinesFollowPhase s) : LinesFollowPhase (enterBoot s) := by
    have en : s.lines.pwrEn = true := (h.pwrEn hp).trans on
    simp [LinesFollowPhase, enterBoot, startSupplyFilter, beginPhase_eq, hp, en, pwrEnPhase, releasedPhase]
  refine { toKept := enterBoot_kept s, lines := lines, supervised := fun h => ⟨lines h.1, ?_, ?_⟩, powered := ?_ }
  · simp only [TimersFollowPhase, enterBoot_phase]
    cases h : s.pins.pwrgood <;> simp [enterBoot, startSupplyFilter, beginPhase_eq, h, watchesSupply]
  · have ends := beginPhase_suspension .boot h.suspendedInRun
    simp only [SupervisorFollowsPhase, enterBoot_phase]
    simpa [enterBoot, startSupplyFilter, releasedPhase] using ends
  · simp [enterBoot, startSupplyFilter, beginPhase_eq]

theorem enterRestart_kept (s : State) : Kept s (enterRestart s) := by
  refine (beginPhase_kept (p := .restart) (by decide) (by decide) s).trans ?_
  have phase : (beginPhase .restart s).ctl.phase = .restart := by rw [beginPhase_eq]
  rw [enterRestart, assertReset_eq]
  generalize beginPhase .restart s = u at phase
  exact ⟨fun _ _ run => absurd (phase.symm.trans run) (by decide), fun _ h => assertedEmpty_queues h (by rw [phase]; decide) rfl,
    escalationBounded_of_view rfl, settingsInRange_of_view rfl, sensorsSound_of_view rfl, powerInBudget_of_view rfl rfl⟩

theorem enterRestart_powered (s : State) : (enterRestart s).powered = s.powered := by
  simp [enterRestart, assertReset_eq, beginPhase_eq, stopSupervision]

theorem enterRestart_followsPhase {s : State} (hp : s.powered = true) (on : s.lines.pwrEn = true) : LinesFollowPhase (enterRestart s) := by
  simp [LinesFollowPhase, enterRestart, assertReset_eq, stopSupervision, beginPhase_eq, hp, on, pwrEnPhase, releasedPhase]

theorem enterRestart_supervised {s : State} (hp : s.powered = true) (on : s.lines.pwrEn = true) (held : SuspendedInRun s) :
    Supervised (enterRestart s) := by
  refine ⟨enterRestart_followsPhase hp on, ?_, ?_⟩
  · simp only [TimersFollowPhase, enterRestart_phase]
    simp [enterRestart, assertReset_eq, stopSupervision, beginPhase_eq, watchesSupply]
  · have ends := beginPhase_suspension .restart held
    simp only [SupervisorFollowsPhase, enterRestart_phase]
    simpa [enterRestart, assertReset_eq, stopSupervision] using ends

end Sys2Proof.Machine
end

section
/-! Safe restart requests (R118, R119, R121), heartbeats (R109 to R113) and chord firings (R10, R23, R136). -/

namespace Sys2Proof.Machine

/-! ## Actions carried out (R16) -/

theorem carryOut_kept (a : RestartAction) (s : State) : Kept s (carryOut a s) := by
  cases a <;> unfold carryOut
  case cooldown =>
    simp only
    split
    · exact .refl s
    · exact enterCooldown_kept s
  case reset => cases s.ctl.phase <;> first | exact enterRestart_kept s | exact .refl s
  case powerCycle => cases s.ctl.phase <;> first | exact enterPowerCycle_kept s | exact .refl s
  case lockout => cases s.ctl.phase <;> first | exact enterLockout_kept s | exact .refl s

/-- An action is carried out, or the phase does not allow it and nothing changes. -/
theorem carryOut_supervised {a : RestartAction} {s : State} (hp : s.powered = true) (hl : LinesFollowPhase s) (held : SuspendedInRun s) :
    carryOut a s = s ∨ Supervised (carryOut a s) := by
  have en : s.lines.pwrEn = pwrEnPhase s.ctl.phase := hl.pwrEn hp
  cases a <;> unfold carryOut
  case cooldown =>
    simp only
    split
    · exact .inl rfl
    · exact .inr (enterCooldown_supervised held)
  case reset =>
    cases phase : s.ctl.phase <;> rw [phase] at en <;> first | exact .inl rfl | exact .inr (enterRestart_supervised hp en held)
  case powerCycle => cases s.ctl.phase <;> first | exact .inl rfl | exact .inr (enterPowerCycle_supervised held)
  case lockout => cases s.ctl.phase <;> first | exact .inl rfl | exact .inr (enterLockout_supervised held)

/-- An action keeps the lines with the phase. -/
theorem carryOut_followsPhase (a : RestartAction) {s : State} (hp : s.powered = true) (hl : LinesFollowPhase s) :
    LinesFollowPhase (carryOut a s) := by
  have en : s.lines.pwrEn = pwrEnPhase s.ctl.phase := hl.pwrEn hp
  have cycled : LinesFollowPhase (enterPowerCycle s) :=
    linesFollowPhase_of_view (by simp only [linesView, resetView, enterPowerCycle]) (enterOff_followsPhase (p := .powerCycle) rfl s)
  cases a <;> unfold carryOut
  case cooldown =>
    simp only
    split
    · exact hl
    · exact enterOff_followsPhase rfl _
  case reset => cases phase : s.ctl.phase <;> rw [phase] at en <;> first | exact hl | exact enterRestart_followsPhase hp en
  case powerCycle => cases s.ctl.phase <;> first | exact hl | exact cycled
  case lockout => cases s.ctl.phase <;> first | exact hl | exact enterOff_followsPhase rfl _

theorem carryOut_powered (a : RestartAction) (s : State) : (carryOut a s).powered = s.powered := by
  have cycled : (enterPowerCycle s).powered = s.powered := by simp only [enterPowerCycle, enterOff_powered]
  cases a <;> unfold carryOut
  case cooldown =>
    simp only
    split
    · rfl
    · exact enterOff_powered ..
  case reset => cases s.ctl.phase <;> first | rfl | exact enterRestart_powered s
  case powerCycle => cases s.ctl.phase <;> first | rfl | exact cycled
  case lockout => cases s.ctl.phase <;> first | rfl | exact enterOff_powered ..

/-! ## The record (R119, R121) -/

/-- A counted RESET is chosen only where the history holds fewer than K - 1 counted RESET records of the window that ends now. -/
theorem countActions_lt_of_reset {c : RestartCause} {s : State} (counted : isCounted c = true) (reset : chooseAction c s = .reset) :
    countActions .reset s + 1 < s.cfg.watchdog.k := by
  have escalates : escalated s = .reset := by
    cases c <;> simp [isCounted] at counted <;> simp only [chooseAction] at reset
    case supplyLoss =>
      split at reset
      · exact absurd reset (by decide)
      · exact reset
    all_goals exact reset
  unfold escalated at escalates
  split at escalates
  · assumption
  · split at escalates <;> exact absurd escalates (by decide)

/-- In a window that holds the present uptime, the counted RESET records after the floor are those that R119 counts. -/
theorem resetsInWindow_le_countActions {u : Nat} {s : State} (window : s.clock.uptime ≤ u + s.cfg.watchdog.window * 60) :
    resetsInWindow u s ≤ countActions .reset s := by
  refine List.countP_mono_left fun r _ h => ?_
  simp only [isCountedReset, qualifies, Bool.and_eq_true, decide_eq_true_eq] at h ⊢
  obtain ⟨⟨⟨⟨counted, reset⟩, above⟩, from_⟩, -⟩ := h
  exact ⟨⟨⟨counted, by omega⟩, above⟩, reset⟩

/-- The record of a request keeps the history below K counted RESET records a window: it is one of them only where R119 found room for it. -/
theorem addRecord_escalation (c : RestartCause) {s : State} (h : EscalationBounded s) :
    EscalationBounded (addRecord (recordOf c (chooseAction c s) s) s) := by
  obtain ⟨huptime, hstamps, hwindow⟩ := h
  rw [addRecord_eq_drop]
  have kept := List.drop_sublist (s.sup.history.length + 1 - 8) (s.sup.history ++ [recordOf c (chooseAction c s) s])
  refine ⟨huptime, fun r mem => ?_, fun u => ?_⟩
  · rcases List.mem_append.mp (kept.subset mem) with old | new
    · exact hstamps r old
    · rw [List.mem_singleton.mp new]
      exact le_rfl
  · refine Nat.lt_of_le_of_lt kept.countP_le ?_
    rw [List.countP_append, List.countP_singleton]
    split
    next joins =>
      simp only [recordOf, isCountedReset, Bool.and_eq_true, beq_iff_eq] at joins
      obtain ⟨⟨⟨⟨counted, reset⟩, -⟩, -⟩, inside⟩ := joins
      have room := countActions_lt_of_reset counted reset
      have before : resetsInWindow u s ≤ countActions .reset s := resetsInWindow_le_countActions (of_decide_eq_true inside)
      exact Nat.lt_of_le_of_lt (Nat.succ_le_succ before) (room.trans_le (le_max_right ..))
    · exact hwindow u

theorem addRecord_safe (c : RestartCause) (s : State) : Safe s (addRecord (recordOf c (chooseAction c s) s) s) := by
  have bounded := addRecord_escalation c (s := s)
  rw [addRecord_eq_drop] at bounded ⊢
  refine .of_parts rfl (supervised_of_view rfl rfl) ?_ bounded (settingsInRange_of_view rfl) (sensorsSound_of_view rfl) (powerInBudget_of_view rfl rfl)
  rintro - ⟨hd, hb, hu, hn, hk, hf, hq, hrun, hrst, -⟩
  refine ⟨hd, hb, hu, hn, hk, hf, hq, hrun, hrst, ?_⟩
  rw [List.length_drop, List.length_append, List.length_singleton]
  omega

/-! ## Requests (R118) -/

theorem request_kept (c : RestartCause) (s : State) : Kept s (request c s) := by
  unfold request
  split
  · exact (addRecord_safe c s).toKept.trans (carryOut_kept ..)
  · exact .refl s

theorem request_followsPhase (c : RestartCause) {s : State} (hp : s.powered = true) (hl : LinesFollowPhase s) :
    LinesFollowPhase (request c s) := by
  unfold request
  split
  · exact carryOut_followsPhase _ hp (linesFollowPhase_of_view rfl hl)
  · exact hl

theorem request_powered (c : RestartCause) (s : State) : (request c s).powered = s.powered := by
  unfold request
  split
  · exact carryOut_powered ..
  · rfl

theorem request_safe (c : RestartCause) {s : State} (hp : s.powered = true) : Safe s (request c s) where
  toKept := request_kept c s
  lines := request_followsPhase c hp
  supervised h := by
    unfold request
    split
    · have recorded := (addRecord_safe c s).supervised h
      rcases carryOut_supervised (a := chooseAction c s) (s := addRecord (recordOf c (chooseAction c s) s) s) hp recorded.1
        recorded.suspendedInRun with stayed | entered
      · rwa [stayed]
      · exact entered
    · exact h
  powered := request_powered c s

/-- A counted cause that arrives with the computer powered and not in RESTART leads to an entry (R16, R118, R119): whatever timers stood before it, the
entry sets them by its phase. -/
theorem request_supervised_of_counted {c : RestartCause} {s : State} (hp : s.powered = true) (hl : LinesFollowPhase s)
    (held : SuspendedInRun s) (counted : isCounted c = true) (up : s.ctl.phase = .powerOn ∨ s.ctl.phase = .boot ∨ s.ctl.phase = .run) :
    Supervised (request c s) := by
  have taken : takesRequest c s.ctl.phase = true := by rcases up with h | h | h <;> rw [h] <;> rfl
  have escalates : chooseAction c s = escalated s := by
    cases c <;> simp [isCounted] at counted <;> simp only [chooseAction]
    rcases up with h | h | h <;> simp [h]
  have enters (a : RestartAction) (u : State) (phase : u.ctl.phase = s.ctl.phase) (ha : a = .reset ∨ a = .powerCycle ∨ a = .lockout) :
      carryOut a u ≠ u := by
    intro stayed
    have same := congrArg (fun t => t.ctl.phase) stayed
    rcases up with h | h | h <;> rcases ha with rfl | rfl | rfl <;> simp [carryOut, phase, h] at same
  have action : escalated s = .reset ∨ escalated s = .powerCycle ∨ escalated s = .lockout := by
    unfold escalated
    split_ifs <;> simp
  unfold request
  simp only [taken, if_true]
  rcases carryOut_supervised (a := chooseAction c s) (s := addRecord (recordOf c (chooseAction c s) s) s) hp
    (linesFollowPhase_of_view rfl hl) held with stayed | entered
  · exact absurd stayed (enters _ _ rfl (escalates ▸ action))
  · exact entered

/-- A good frame discarded in reset adds to the open record alone (R122). -/
theorem reportLate_safe (s : State) : Safe s (reportLate s) := by
  unfold reportLate
  refine .ite (fun _ => ?_) fun _ => .refl s
  split
  · exact .refl s
  next r last =>
    obtain ⟨older, held⟩ := List.getLast?_eq_some_iff.mp last
    have front : s.sup.history.dropLast = older := by rw [held, List.dropLast_concat]
    refine .of_parts rfl (supervised_of_view rfl rfl) ?queues ?escalation (settingsInRange_of_view rfl) (sensorsSound_of_view rfl)
      (powerInBudget_of_view rfl rfl)
    case escalation =>
      rintro ⟨huptime, hstamps, hwindow⟩
      refine ⟨huptime, fun x mem => ?_, fun u => ?_⟩
      · rw [held] at hstamps
        rcases List.mem_append.mp (front ▸ mem) with old | new
        · exact hstamps x (List.mem_append_left _ old)
        · rw [List.mem_singleton.mp new]
          exact hstamps r (by simp)
      · have same := hwindow u
        rw [resetsInWindow, held, List.countP_append, List.countP_singleton] at same
        rw [resetsInWindow, front, List.countP_append, List.countP_singleton]
        exact same
    case queues =>
      refine fun _ => queuesInBounds_of_view rfl ?_
      have same : (s.sup.history.dropLast ++ [{ r with lateCount := inc8 r.lateCount }]).length = s.sup.history.length := by
        rw [front, held, List.length_append, List.length_append, List.length_singleton, List.length_singleton]
      simp only [queuesView, same]

theorem discardInReset_safe (s : State) : Safe s (discardInReset s) := (countOn_safe ..).trans (reportLate_safe _)

/-! ## Heartbeats (R110, R111) -/

theorem raiseIf_eq (b : Bool) (c : Cause) (s : State) :
    raiseIf b c s = { s with note.pending := if b then s.note.pending ||| causeBit c else s.note.pending } := by
  cases b <;> rfl

/-- RUN entered: beside what every entry does, the supply loss filter, the SNAPSHOT, and the cause of the records (R13, R123, R139). -/
theorem enterRun_eq (s : State) : enterRun s = { beginPhase .run s with
    ctl.supplyLoss := if s.pins.pwrgood then none else some s.clock.now
    keys.queue := (beginPhase .run s).keys.queue ++ (if (downCodes s).isEmpty then [] else [snapshotEvent false s])
    note.pending := if s.sup.addedSinceRun then s.note.pending ||| causeBit .restartRecorded else s.note.pending
    sup.addedSinceRun := false } := by
  have codes : downCodes (startSupplyFilter (beginPhase .run s)) = downCodes s := by rw [startSupplyFilter, beginPhase_eq]; rfl
  have shot : snapshotEvent false (startSupplyFilter (beginPhase .run s)) = snapshotEvent false s := by
    rw [startSupplyFilter, beginPhase_eq]; rfl
  rw [enterRun]
  simp only [codes, shot, raiseIf_eq]
  rw [startSupplyFilter, beginPhase_eq]
  by_cases h : (downCodes s).isEmpty = true
  · simp only [h, if_true, List.append_nil]
  · simp only [h, Bool.false_eq_true, if_false]

theorem enterRun_kept {s : State} (hr : s.lines.pcRst = false) : Kept s (enterRun s) := by
  have begun := fun h => beginPhase_queues (s := s) .run h
  rw [enterRun_eq]
  rw [beginPhase_eq] at begun ⊢
  refine ⟨fun _ _ _ => hr, fun _ h => ?_, escalationBounded_of_view rfl, settingsInRange_of_view rfl, sensorsSound_of_view rfl, ?_⟩
  · obtain ⟨⟨hd, hb, hu, hn, hk, hf, -, -, hrst, hhist⟩, empty, -, -⟩ := begun h
    refine ⟨hd, hb, hu, hn, hk, hf, ?_, fun h => absurd rfl h, hrst, hhist⟩
    simp only at empty ⊢
    rw [empty, List.nil_append]
    split <;> simp
  · rintro ⟨htot, ⟨ha0, ht0, hb0, hl0, hi0, -⟩, ⟨ha1, ht1, hb1, hl1, hi1, -⟩, rest⟩
    exact ⟨htot, ⟨ha0, ht0, hb0, hl0, hi0, fun h => nomatch h⟩, ⟨ha1, ht1, hb1, hl1, hi1, fun h => nomatch h⟩, rest⟩

/-- With PC_RST# released the lines are those of RUN (R1). -/
theorem LinesFollowPhase.pwrEn_of_released {s : State} (h : LinesFollowPhase s) (hp : s.powered = true) (hr : s.lines.pcRst = false) :
    s.lines.pwrEn = true := by
  have released := h.pcRst hp
  rw [h.pwrEn hp]
  rw [hr] at released
  cases phase : s.ctl.phase <;> rw [phase] at released <;> first | rfl | exact absurd released (by decide)

theorem enterRun_safe {s : State} (hp : s.powered = true) (hr : s.lines.pcRst = false) (beats : s.sup.deadline = .heartbeat) :
    Kept s (enterRun s) ∧ (LinesFollowPhase s → LinesFollowPhase (enterRun s))
      ∧ (LinesFollowPhase s → SuspendedInRun s → Supervised (enterRun s)) ∧ (enterRun s).powered = s.powered := by
  have lines (h : LinesFollowPhase s) : LinesFollowPhase (enterRun s) := by
    have en := h.pwrEn_of_released hp hr
    rw [enterRun_eq, beginPhase_eq]
    simp [LinesFollowPhase, hp, hr, en, pwrEnPhase, releasedPhase]
  refine ⟨enterRun_kept hr, lines, fun hl held => ⟨lines hl, ?_, ?_⟩, ?_⟩
  · rw [enterRun_eq, beginPhase_eq]
    simp [TimersFollowPhase, watchesSupply]
  · have ends := beginPhase_suspension .run held
    rw [enterRun_eq]
    rw [beginPhase_eq] at ends ⊢
    exact ⟨.inl beats, by simp only at ends; simp [ends, beats], fun _ => rfl⟩
  · rw [enterRun_eq, beginPhase_eq]

/-- The entry to RUN that a fresh offer in the boot window makes (R111). -/
theorem enterRun_fresh_safe {s : State} (hp : s.powered = true) (hr : s.lines.pcRst = false) (next : Nat) :
    Safe s (enterRun { s with
      sup.staleCount := 0, sup.firstHeartbeat := false, sup.deadline := .heartbeat, sup.expiry := next }) := by
  have started : Kept s { s with
      sup.staleCount := 0, sup.firstHeartbeat := false, sup.deadline := .heartbeat, sup.expiry := next } := .of rfl
  obtain ⟨kept, lines, supervised, powered⟩ := enterRun_safe
    (s := { s with sup.staleCount := 0, sup.firstHeartbeat := false, sup.deadline := .heartbeat, sup.expiry := next }) hp hr rfl
  exact { toKept := .trans started kept, lines := lines, supervised := fun h => supervised h.1 h.suspendedInRun, powered := powered }

theorem restartDeadline_safe (s : State) (next : Nat) : Safe s { s with sup.staleCount := 0, sup.expiry := next } := .of rfl

theorem acceptHeartbeat_safe {s : State} (hp : s.powered = true) (hr : s.lines.pcRst = false) : Safe s (acceptHeartbeat s) := by
  unfold acceptHeartbeat
  simp only
  split
  · exact enterRun_fresh_safe hp hr _
  · exact restartDeadline_safe s _
  all_goals exact .of rfl

theorem setToken_safe (src : HeartbeatSource) (t : Option Byte) (s : State) : Safe s (setToken src t s) := by cases src <;> exact .of rfl

theorem offerHeartbeat_safe (src : HeartbeatSource) (token : Option Byte) {s : State} (hp : s.powered = true)
    (hr : s.lines.pcRst = false) : Safe s (offerHeartbeat src token s).1 := by
  unfold offerHeartbeat
  simp only
  split
  · have remembered : Safe s (if token.isSome then setToken src token s else s) := .ite (fun _ => setToken_safe ..) fun _ => .refl s
    have still : (if token.isSome then setToken src token s else s).lines.pcRst = false := by
      split
      · rw [setToken_lines]; exact hr
      · exact hr
    split
    · exact remembered.trans (acceptHeartbeat_safe (remembered.powered.trans hp) still)
    · exact remembered.trans (.of rfl)
  · exact .refl s

/-! ## Chord firings (R10, R23, R136) -/

theorem showOverlay_safe (o : Overlay) (s : State) : Safe s (showOverlay o s) := .of rfl

/-- The floor at the present uptime leaves no record to count (R23, R120). -/
theorem escalationBounded_of_floor {s t : State} (h : EscalationBounded s) (uptime : t.clock.uptime = s.clock.uptime)
    (history : t.sup.history = s.sup.history) (floor : t.sup.floor = s.clock.uptime) : EscalationBounded t := by
  obtain ⟨huptime, hstamps, -⟩ := h
  refine ⟨uptime ▸ huptime, fun r mem => uptime ▸ hstamps r (history ▸ mem), fun u => ?_⟩
  have none_counts : resetsInWindow u t = 0 := by
    refine List.countP_eq_zero.mpr fun r mem => ?_
    have stamp := hstamps r (history ▸ mem)
    simp only [Bool.and_eq_true, decide_eq_true_eq, floor]
    omega
  rw [none_counts]
  exact Nat.lt_of_lt_of_le Nat.zero_lt_one (le_max_left ..)

theorem moveFloor_safe (s : State) : Safe s { s with sup.floor := s.clock.uptime } :=
  .of_escalation rfl (fun h => escalationBounded_of_floor h rfl rfl rfl)

theorem handOn_safe (a : ChordAction) {s : State} (hp : s.powered = true) : Safe s (handOn a s) := by
  cases a <;> unfold handOn <;> simp only
  case requestRestart => exact .ite (fun _ => (request_safe .chordRestart hp).trans (showOverlay_safe ..)) fun _ => showOverlay_safe ..
  case report => exact showOverlay_safe ..
  case skipWarmup =>
    refine .ite (fun preheat => ?_) fun _ => showOverlay_safe ..
    split
    · exact showOverlay_safe ..
    · exact .ite (fun _ => (enterPowerOn_safe hp preheat).trans (showOverlay_safe ..)) fun _ => showOverlay_safe ..
  case clearLockout =>
    refine (moveFloor_safe s).trans ?_
    split
    · exact (enterPreheat_safe (s := { s with sup.floor := s.clock.uptime }) hp).trans (showOverlay_safe ..)
    · exact Safe.trans (t := { s with sup.floor := s.clock.uptime, ctl.originLockout := false }) (.of rfl) (showOverlay_safe ..)
    all_goals exact showOverlay_safe ..

theorem takeFirings_safe (n : Nat) {s : State} (hp : s.powered = true) : Safe s (takeFirings n s) := by
  refine takeFirings_keeps (P := Safe s) (fun a rest u _ h => h.trans ?_) n s (.refl s)
  exact Safe.trans (t := { u with ctl.firings := rest }) (.of rfl) (handOn_safe a (h.powered.trans hp))

theorem handFirings_safe (l : List ChordAction) {s : State} (hp : s.powered = true) : Safe s (handFirings l s) := by
  cases l with
  | nil => exact .refl s
  | cons a l =>
    rw [handFirings_cons]
    exact Safe.trans (t := { s with ctl.firings := s.ctl.firings ++ a :: l, draw := s.draw + 1 }) (.of rfl) (takeFirings_safe _ hp)

end Sys2Proof.Machine
end

section
/-! Safe settings (R38, R57, R59, R102, R103, R120, R133, R134, R141, R152): each command that puts settings in force puts them in their ranges. -/

namespace Sys2Proof.Machine

/-! ## Settings in their ranges, check by check -/

/-- The checks of `Settings.inRange`, by name. -/
structure Settings.InRange (c : Settings) : Prop where
  passLength : c.pass.length = 32
  passValid : ∀ d ∈ c.pass, d.valid = true
  oneClamp : c.pass.countP isClamp ≤ 1
  answersLength : c.answers.length = 8
  answersValid : ∀ a ∈ c.answers, a.valid = true
  keymapLength : c.keymap.length = 48
  chordsLength : c.chords.length = 4
  chordsValid : ∀ d ∈ c.chords, d.valid = true
  keypad : clampKeypad c.keypad = c.keypad
  channels : clampChannels c.channels = c.channels
  fanRange : c.channels.tOn < c.channels.tFull
  sensing : clampSensing c.sensing = c.sensing
  budget : ∀ n ∈ [c.budget.bTot, c.budget.rc, c.budget.p0, c.budget.p1, c.budget.pFan, c.budget.pBl, c.budget.lInit, c.budget.lCap], n ≤ 255
  watchdog : clampWatchdog c.watchdog = c.watchdog

theorem inRange_iff (c : Settings) : c.inRange = true ↔ c.InRange := by
  simp only [Settings.inRange, Bool.and_eq_true, beq_iff_eq, decide_eq_true_eq, List.all_eq_true]
  constructor
  · rintro ⟨⟨⟨⟨⟨⟨⟨⟨⟨⟨⟨⟨⟨h1, h2⟩, h3⟩, h4⟩, h5⟩, h6⟩, h7⟩, h8⟩, h9⟩, h10⟩, h11⟩, h12⟩, h13⟩, h14⟩
    exact ⟨h1, h2, h3, h4, h5, h6, h7, h8, h9, h10, h11, h12, h13, h14⟩
  · rintro ⟨h1, h2, h3, h4, h5, h6, h7, h8, h9, h10, h11, h12, h13, h14⟩
    exact ⟨⟨⟨⟨⟨⟨⟨⟨⟨⟨⟨⟨⟨h1, h2⟩, h3⟩, h4⟩, h5⟩, h6⟩, h7⟩, h8⟩, h9⟩, h10⟩, h11⟩, h12⟩, h13⟩, h14⟩

/-- Settings in force replaced by others in their ranges. -/
theorem settingsInRange_of_cfg {s t : State} (store : t.store = s.store) (cfg : s.cfg.InRange → t.cfg.InRange) (h : SettingsInRange s) :
    SettingsInRange t := by
  obtain ⟨hcfg, harea, hshadow, hcapture⟩ := h
  exact ⟨(inRange_iff _).mpr (cfg ((inRange_iff _).mp hcfg)), store ▸ harea, store ▸ hshadow, store ▸ hcapture⟩

/-! ## Clamping (R144) -/

theorem clampN_idem {lo hi : Nat} (h : lo ≤ hi) (n : Nat) : clampN lo hi (clampN lo hi n) = clampN lo hi n := by
  unfold clampN
  omega

theorem clampI_idem {lo hi : Int} (h : lo ≤ hi) (n : Int) : clampI lo hi (clampI lo hi n) = clampI lo hi n := by
  unfold clampI
  omega

theorem clampStuck_idem (n : Nat) : clampStuck (clampStuck n) = clampStuck n := by
  unfold clampStuck clampN
  split_ifs <;> omega

theorem clampKeypad_idem (k : KeypadParams) : clampKeypad (clampKeypad k) = clampKeypad k := by
  simp only [clampKeypad, clampN_idem (show 5 ≤ 100 by decide), clampI_idem (show (-200 : Int) ≤ 100 by decide),
    clampN_idem (show 0 ≤ 10 by decide), clampStuck_idem, clampN_idem (show 100 ≤ 2000 by decide), clampN_idem (show 20 ≤ 1000 by decide)]

/-- Tfull as it comes into force lies above a Ton in its range, and clamping it again leaves it (R44). -/
theorem clampFull_of_range {tOn : Int} (low : 40 ≤ tOn) (high : tOn ≤ 400) (tFull : Int) :
    clampFull tOn (clampFull tOn tFull) = clampFull tOn tFull ∧ tOn < clampFull tOn tFull := by
  simp only [clampFull, clampI]
  constructor <;> split_ifs <;> omega

theorem clampI_range {lo hi : Int} (h : lo ≤ hi) (n : Int) : lo ≤ clampI lo hi n ∧ clampI lo hi n ≤ hi := by
  unfold clampI
  omega

theorem clampChannels_idem (t : ThermalChannels) :
    clampChannels (clampChannels t) = clampChannels t ∧ (clampChannels t).tOn < (clampChannels t).tFull := by
  obtain ⟨low, high⟩ := clampI_range (show (40 : Int) ≤ 400 by decide) t.tOn
  obtain ⟨full, above⟩ := clampFull_of_range low high t.tFull
  refine ⟨?_, above⟩
  simp only [clampChannels, clampI_idem (show (-120 : Int) ≤ 200 by decide), clampI_idem (show (4 : Int) ≤ 400 by decide),
    clampI_idem (show (40 : Int) ≤ 400 by decide), full]

theorem clampSensing_idem (t : ThermalSensing) : clampSensing (clampSensing t) = clampSensing t := by
  simp only [clampSensing, clampI_idem (show (-32 : Int) ≤ 31 by decide), clampI_idem (show (-200 : Int) ≤ 100 by decide),
    clampN_idem (show 10 ≤ 600 by decide), clampN_idem (show 1 ≤ 240 by decide), clampI_idem (show (-220 : Int) ≤ 0 by decide),
    clampI_idem (show (120 : Int) ≤ 480 by decide), clampI_idem (show (200 : Int) ≤ 480 by decide),
    clampI_idem (show (40 : Int) ≤ 200 by decide)]

theorem clampWatchdog_idem (w : WatchdogParams) : clampWatchdog (clampWatchdog w) = clampWatchdog w := by
  simp only [clampWatchdog, clampN_idem (show 10 ≤ 1800 by decide), clampN_idem (show 1 ≤ 600 by decide),
    clampN_idem (show 1 ≤ 240 by decide), clampN_idem (show 1 ≤ 4 by decide)]

/-! ## Lists of settings with one replaced -/

theorem forall_mem_set {α : Type} {P : α → Prop} {l : List α} {x : α} (i : Nat) (h : ∀ y ∈ l, P y) (hx : P x) : ∀ y ∈ l.set i x, P y :=
  fun _ mem => (List.mem_or_eq_of_mem_set mem).elim (h _) fun e => e ▸ hx

/-- Whether an index other than `i` holds such an entry (R103). -/
theorem clampElsewhere_iff (i : Nat) (l : List PassDef) :
    clampElsewhere i l = true ↔ ∃ j d, j ≠ i ∧ l[j]? = some d ∧ isClamp d = true := by
  simp only [clampElsewhere, List.any_eq_true, Bool.and_eq_true, bne_iff_ne, Prod.exists, List.mem_zipIdx_iff_getElem?]
  constructor
  · rintro ⟨d, j, at_, clamp, other⟩
    exact ⟨j, d, other, at_, clamp⟩
  · rintro ⟨j, d, other, at_, clamp⟩
    exact ⟨d, j, at_, clamp, other⟩

/-- An entry replaced leaves at most one ACTIVE CLAMP_LEVEL entry, where the new one is none or no other index holds one (R103). -/
theorem countP_isClamp_set {l : List PassDef} {i : Nat} {d : PassDef} (one : l.countP isClamp ≤ 1)
    (h : isClamp d = true → clampElsewhere i l = false) : (l.set i d).countP isClamp ≤ 1 := by
  by_cases inTable : i < l.length
  · rw [List.countP_set inTable]
    by_cases clamp : isClamp d = true
    · have others : l.countP isClamp ≤ if isClamp l[i] = true then 1 else 0 := by
        split
        · exact one
        next notHere =>
          refine (List.countP_eq_zero.mpr fun x mem holds => ?_).le
          obtain ⟨j, hj, rfl⟩ := List.getElem_of_mem mem
          have elsewhere : clampElsewhere i l = true :=
            (clampElsewhere_iff i l).mpr ⟨j, l[j], fun e => notHere (by subst e; exact holds), List.getElem?_eq_getElem hj, holds⟩
          rw [h clamp] at elsewhere
          exact absurd elsewhere (by decide)
      rw [if_pos clamp]
      omega
    · rw [if_neg clamp]
      omega
  · rw [List.set_eq_of_length_le (Nat.le_of_not_lt inTable)]
    exact one

/-! ## What the judges accept -/

/-- A definition that R103's checks accept is valid, and no conflict stands against it. -/
theorem judgePassEntry_ok {p : List Byte} {s : State} {d : PassDef} (h : judgePassEntry p s = .ok d) :
    d.valid = true ∧ (isClamp d = true → clampElsewhere (u8At p 0) s.cfg.pass = false) := by
  unfold judgePassEntry at h
  simp only at h
  split at h
  · exact absurd h (by simp)
  next index =>
    split at h
    next active dir action st dr ac =>
      split_ifs at h with up token level conflict
      simp only [Except.ok.injEq] at h
      subst h
      refine ⟨?_, fun clamp => Bool.eq_false_iff.mpr fun elsewhere => conflict ⟨clamp, elsewhere⟩⟩
      cases active with
      | false => rfl
      | true =>
        have stCode : u8At p 1 = 1 := by
          revert st
          unfold boolOfCode
          split <;> simp_all
        cases action with
        | forward | drop => rfl
        | heartbeat =>
          have down : dir = .down := by cases dir <;> simp_all
          simp only [PassDef.valid, readPassDef, down, Bool.not_true, Bool.false_or, Bool.and_eq_true, Bool.or_eq_true, beq_iff_eq,
            decide_eq_true_eq, true_and]
          simp only [readPassDef, true_and, not_and, not_not] at token
          by_cases inside : 31 < (p.getD 11 0).toNat
          · exact .inr (token inside)
          · exact .inl (by omega)
        | clampLevel =>
          have down : dir = .down := by cases dir <;> simp_all
          simp only [PassDef.valid, readPassDef, down, Bool.not_true, Bool.false_or, Bool.and_eq_true, beq_iff_eq,
            decide_eq_true_eq, true_and]
          simp only [readPassDef, true_and, not_lt] at level
          exact level
        | answer =>
          have acCode : u8At p 3 = 4 := by
            revert ac
            unfold PassAction.ofCode
            split <;> simp_all
          simp only [stCode, acCode, true_and, not_lt] at index
          simp only [PassDef.valid, readPassDef, Bool.not_true, Bool.false_or]
          exact decide_eq_true index
    · exact absurd h (by simp)

/-- A chord definition that R134's checks accept is valid once its hold time is clamped. -/
theorem judgeChord_valid {p : List Byte} {d : ChordDef} (h : judgeChord p = some d) : (clampChord d).valid = true := by
  unfold judgeChord at h
  split at h
  · exact absurd h (by simp)
  next act _ =>
    simp only at h
    split at h
    next ok =>
      simp only [Option.some.injEq] at h
      subst h
      obtain ⟨count, members, nodup⟩ := ok
      have lower : 500 ≤ clampN 500 10000 (readChord p act).holdMs := le_max_left ..
      have upper : clampN 500 10000 (readChord p act).holdMs ≤ 10000 := max_le (by decide) (min_le_left ..)
      simp only [ChordDef.valid, Bool.and_eq_true, Bool.or_eq_true, beq_iff_eq, decide_eq_true_eq]
      exact ⟨⟨⟨⟨or_assoc.mpr count, members⟩, nodup⟩, lower⟩, upper⟩
    · exact absurd h (by simp)

/-! ## Settings put in force -/

theorem u8At_le (p : List Byte) (i : Nat) : u8At p i ≤ 255 := Nat.le_of_lt_succ (p.getD i 0).isLt

theorem setEnables_safe (e : BitVec 13) (s : State) : Safe s { s with cfg.enables := e } :=
  .of_settings rfl (settingsInRange_of_cfg rfl fun h => { h with })

theorem setWatchdog_safe (w : WatchdogParams) (s : State) :
    Safe s { s with
      cfg.watchdog := clampWatchdog w
      sup.floor :=
        if decide ((clampWatchdog w).window ≠ s.cfg.watchdog.window ∨ (clampWatchdog w).k ≠ s.cfg.watchdog.k
            ∨ (clampWatchdog w).m ≠ s.cfg.watchdog.m) then s.clock.uptime
        else s.sup.floor } := by
  refine .of_parts rfl (supervised_of_view rfl rfl) (fun _ => queuesInBounds_of_view rfl rfl) (fun h => ?_)
    (settingsInRange_of_cfg rfl fun h => { h with watchdog := clampWatchdog_idem w }) (sensorsSound_of_view rfl) (powerInBudget_of_view rfl rfl)
  split
  · exact escalationBounded_of_floor h rfl rfl rfl
  next same =>
    simp only [decide_eq_true_eq, not_or, not_not] at same
    obtain ⟨hwindow, hk, -⟩ := same
    simpa only [EscalationBounded, resetsInWindow, hwindow, hk] using h

theorem writeEntry_safe {p : List Byte} {s : State} {d : PassDef} (h : judgePassEntry p s = .ok d) : Safe s (writeEntry (u8At p 0) d s) := by
  obtain ⟨valid, free⟩ := judgePassEntry_ok h
  exact .of_settings rfl (settingsInRange_of_cfg rfl fun h =>
    { h with
      passLength := (List.length_set ..).trans h.passLength
      passValid := forall_mem_set _ h.passValid valid
      oneClamp := countP_isClamp_set h.oneClamp free })

theorem setAnswer_safe {a : Answer} (i : Nat) (s : State) (valid : a.valid = true) : Safe s { s with cfg.answers := s.cfg.answers.set i a } :=
  .of_settings rfl (settingsInRange_of_cfg rfl fun h =>
    { h with answersLength := (List.length_set ..).trans h.answersLength, answersValid := forall_mem_set _ h.answersValid valid })

theorem setDefaults_safe (d u : DefaultAction) (s : State) : Safe s { s with cfg.defaultDown := d, cfg.defaultUp := u } :=
  .of_settings rfl (settingsInRange_of_cfg rfl fun h => { h with })

theorem setChannelSettings_safe (t : ThermalChannels) (s : State) : Safe s { s with cfg.channels := clampChannels t } :=
  .of_settings rfl (settingsInRange_of_cfg rfl fun h =>
    { h with channels := (clampChannels_idem t).1, fanRange := (clampChannels_idem t).2 })

theorem setSensing_safe (t : ThermalSensing) (s : State) : Safe s { s with cfg.sensing := clampSensing t } :=
  .of_settings rfl (settingsInRange_of_cfg rfl fun h => { h with sensing := clampSensing_idem t })

theorem setKeypad_safe (k : KeypadParams) (s : State) : Safe s { s with cfg.keypad := clampKeypad k } :=
  .of_settings rfl (settingsInRange_of_cfg rfl fun h => { h with keypad := clampKeypad_idem k })

theorem setKeymap_safe (pos : Nat) (ent : KeymapEntry) (s : State) : Safe s { s with cfg.keymap := s.cfg.keymap.set pos ent } :=
  .of_settings rfl (settingsInRange_of_cfg rfl fun h => { h with keymapLength := (List.length_set ..).trans h.keymapLength })

theorem setChord_safe {d : ChordDef} (i : Nat) (l : List ChordRun) (s : State) (valid : d.valid = true) :
    Safe s { s with cfg.chords := s.cfg.chords.set i d, keys.chords := l } :=
  .of_settings rfl (settingsInRange_of_cfg rfl fun h =>
    { h with chordsLength := (List.length_set ..).trans h.chordsLength, chordsValid := forall_mem_set _ h.chordsValid valid })

/-- An allocation made at once after an event that leaves the power to it. -/
theorem Safe.allocated {s u : State} (reserve : Bool)
    (same : (linesView u, timersView u, queuesView u, escalationView u, sensorsView u)
      = (linesView s, timersView s, queuesView s, escalationView s, sensorsView s))
    (settings : SettingsInRange s → SettingsInRange u) : Safe s (allocate reserve u) := by
  simp only [Prod.mk.injEq] at same
  obtain ⟨view, timers, queues, escalation, sensors⟩ := same
  have made := allocate_safe reserve u
  have reset := congrArg Prod.snd view
  exact
    { released := made.released ∘ runReleased_of_view reset
      queues := fun hr hq => made.queues (runReleased_of_view reset hr) (queuesInBounds_of_view reset queues hq)
      escalation := made.escalation ∘ escalationBounded_of_view escalation
      settings := made.settings ∘ settings
      sensors := made.sensors ∘ sensorsSound_of_view sensors
      power := fun _ => allocate_inBudget reserve u
      lines := made.lines ∘ linesFollowPhase_of_view view
      supervised := made.supervised ∘ supervised_of_view view timers
      powered := made.powered.trans (congrArg (fun v => v.2.1) view) }

theorem setBudget_safe (p : List Byte) (s : State) : Safe s (allocateNow { s with cfg.budget := readBudget p }) := by
  refine .allocated _ rfl (settingsInRange_of_cfg rfl fun h => { h with budget := ?_ })
  simp only [readBudget, List.forall_mem_cons, u8At_le, true_and, List.not_mem_nil, false_implies, implies_true]

end Sys2Proof.Machine
end

section
/-! Safe commands (chapter 9): a command is taken with PC_RST# released and room for its reply, and keeps both until the reply has joined the queue. -/

namespace Sys2Proof.Machine

/-! ## What a command starts from -/

/-- The link as a command finds it: PC_RST# released, and room for its reply (R82, R84). -/
structure HasRoom (s : State) : Prop where
  powered : s.powered = true
  released : s.lines.pcRst = false
  room : s.link.up.length ≤ 11

/-- A command that is safe wherever it is taken. -/
def CommandSafe (act : State → State) : Prop := ∀ s, HasRoom s → Safe s (act s)

/-- An event that leaves the line, the supply and the queue leaves the room for the reply. -/
theorem HasRoom.of_eq {s t : State} (h : HasRoom s) (powered : t.powered = s.powered)
    (pcRst : t.lines.pcRst = s.lines.pcRst) (up : t.link.up = s.link.up) : HasRoom t :=
  ⟨powered.trans h.powered, pcRst.trans h.released, up ▸ h.room⟩

theorem refuse_commandSafe (cls : Byte) (r : Result) : CommandSafe (refuse cls r) := fun _ h => refuse_safe cls r h.released h.room

/-- A safe event and then the reply. -/
theorem Safe.replied {s t : State} (h : Safe s t) (room : HasRoom t) (cls : Byte) (r : Result) (data : List Byte) :
    Safe s (reply cls r data t) := h.trans (reply_safe cls r data room.released room.room)

/-! ## What a command's own event leaves -/

@[simp] theorem admitEvent_link (delivering : Bool) (e : KeyEvent) (s : State) : (admitEvent delivering e s).link = s.link := by
  unfold admitEvent
  split_ifs <;> rfl

@[simp] theorem admitEvent_lines (delivering : Bool) (e : KeyEvent) (s : State) : (admitEvent delivering e s).lines = s.lines := by
  unfold admitEvent
  split_ifs <;> rfl

theorem offerMade_link_lines (p : Nat) (code : Byte) (m : Option Made) (coldPress coldRel : Bool) (s : State) :
    (offerMade p code m coldPress coldRel s).link = s.link ∧ (offerMade p code m coldPress coldRel s).lines = s.lines := by
  cases m
  · exact ⟨rfl, rfl⟩
  · exact ⟨admitEvent_link .., admitEvent_lines ..⟩

theorem refreshSummary_link_lines (c : ChannelId) (s : State) :
    (refreshSummary c s).link = s.link ∧ (refreshSummary c s).lines = s.lines := by
  simp [refreshSummary]

theorem refreshSummaries_link_lines (s : State) : (refreshSummaries s).link = s.link ∧ (refreshSummaries s).lines = s.lines := by
  simp [refreshSummaries, refreshSummary_link_lines]

theorem clearLock_link_lines (c : ChannelId) (s : State) : (clearLock c s).link = s.link ∧ (clearLock c s).lines = s.lines := by
  unfold clearLock
  simp only
  split <;> simp

theorem acceptHeartbeat_link_lines (s : State) :
    (acceptHeartbeat s).link = s.link ∧ (acceptHeartbeat s).lines.pcRst = s.lines.pcRst := by
  unfold acceptHeartbeat
  simp only
  split
  · rw [enterRun_eq, beginPhase_eq]
    exact ⟨rfl, rfl⟩
  all_goals exact ⟨rfl, rfl⟩

theorem offerHeartbeat_link_lines (src : HeartbeatSource) (token : Option Byte) (s : State) :
    (offerHeartbeat src token s).1.link = s.link ∧ (offerHeartbeat src token s).1.lines.pcRst = s.lines.pcRst := by
  have remembered : (if token.isSome then setToken src token s else s).link = s.link
      ∧ (if token.isSome then setToken src token s else s).lines = s.lines := by
    split <;> simp
  obtain ⟨link, lines⟩ := remembered
  unfold offerHeartbeat
  simp only
  split
  · split
    · simp only [acceptHeartbeat_link_lines, link, lines, and_self]
    · simp only [link, lines, and_self]
  · exact ⟨rfl, rfl⟩

/-! ## Channels (R48) -/

/-- A channel that leaves LOCKED_OFF is off, and its ramp base 0 (R48). -/
theorem clearLock_safe (c : ChannelId) (s : State) : Safe s (clearLock c s) := by
  unfold clearLock
  simp only
  refine .ite (fun locked => ?_) fun _ => setChannel_safe c rfl rfl
  cases c
  · refine .of_power rfl ?_
    rintro ⟨htot, -, rest⟩
    exact ⟨htot, ⟨Nat.zero_le _, Nat.zero_le _, rfl, fun _ => rfl, fun _ => ⟨rfl, fun h => nomatch h⟩, fun _ => rfl⟩, rest⟩
  · refine .of_power rfl ?_
    rintro ⟨htot, h0, -, rest⟩
    exact ⟨htot, h0, ⟨Nat.zero_le _, Nat.zero_le _, rfl, fun _ => rfl, fun _ => ⟨rfl, fun h => nomatch h⟩, fun _ => rfl⟩, rest⟩
  · refine .of_power rfl ?_
    rintro ⟨htot, h0, h1, -⟩
    exact ⟨htot, h0, h1, Nat.zero_le _, Nat.zero_le _, fun _ => rfl⟩

/-! ## The keymap (R133) -/

theorem setKeys_safe (l : List Key) (s : State) : Safe s { s with keys.keys := l } := .of rfl

theorem setKeymapEntry_safe (pos : Nat) (ent : KeymapEntry) (s : State) : Safe s (setKeymapEntry pos ent s) := by
  unfold setKeymapEntry
  refine .ite (fun _ => ?_) fun _ => setKeymap_safe ..
  split
  · exact setKeymap_safe ..
  · exact Safe.after (offerMade_safe ..) (Safe.after (setKeys_safe ..) (setKeymap_safe ..))

theorem setKeymapEntries_safe (p : List Byte) (first n : Nat) (s : State) : Safe s (setKeymapEntries p first n s) := by
  induction n with
  | zero => exact .refl s
  | succ n ih => exact ih.trans (setKeymapEntry_safe ..)

theorem setKeymapEntry_link_lines (pos : Nat) (ent : KeymapEntry) (s : State) :
    (setKeymapEntry pos ent s).link = s.link ∧ (setKeymapEntry pos ent s).lines = s.lines := by
  unfold setKeymapEntry
  simp only
  split
  · split
    · exact ⟨rfl, rfl⟩
    · exact offerMade_link_lines ..
  · exact ⟨rfl, rfl⟩

theorem setKeymapEntries_link_lines (p : List Byte) (first n : Nat) (s : State) :
    (setKeymapEntries p first n s).link = s.link ∧ (setKeymapEntries p first n s).lines = s.lines := by
  induction n with
  | zero => exact ⟨rfl, rfl⟩
  | succ n ih =>
    obtain ⟨link, lines⟩ := setKeymapEntry_link_lines (first + n) (readKeymapEntry p n) (setKeymapEntries p first n s)
    exact ⟨link.trans ih.1, lines.trans ih.2⟩

/-! ## The commands -/

/-- The lines released, the phase is BOOT or RUN (R1). -/
theorem LinesFollowPhase.releasedPhase_of_released {s : State} (h : LinesFollowPhase s) (hp : s.powered = true)
    (hr : s.lines.pcRst = false) : releasedPhase s.ctl.phase = true := by
  have released := h.pcRst hp
  rw [hr] at released
  cases phase : releasedPhase s.ctl.phase
  · rw [phase] at released
    exact absurd released (by decide)
  · rfl

theorem armRestart_safe {s : State} (h : HasRoom s) (e : Option Nat) : Safe s { s with sup.arm := e } :=
  .of_supervised rfl (fun ⟨hl, ht, hd, hs, _⟩ => ⟨hl, ht, hd, hs, fun _ => hl.releasedPhase_of_released h.powered h.released⟩)

theorem clearArm_safe (s : State) : Safe s { s with sup.arm := none } :=
  .of_supervised rfl (fun ⟨hl, ht, hd, hs, _⟩ => ⟨hl, ht, hd, hs, fun h => absurd h Bool.false_ne_true⟩)

/-- A suspension begun or extended in RUN (R114). -/
theorem suspend_safe {s : State} (run : s.ctl.phase = .run) (x : Suspension) :
    Safe s { s with sup.deadline := .suspended, sup.suspension := some x } := by
  refine .of_supervised rfl ?_
  rintro ⟨hl, ht, -, -, ha⟩
  exact ⟨hl, ht, by simp [run], by simp, ha⟩

/-- A suspension ended (R115). -/
theorem endSuspension_safe {s : State} (at_ : Nat) (suspended : s.sup.deadline = .suspended) : Safe s (endSuspension at_ s) := by
  unfold endSuspension
  generalize at_ + sec s.cfg.watchdog.tHb = e
  refine .of_supervised rfl ?_
  rintro ⟨hl, ht, hd, -, ha⟩
  refine ⟨hl, ht, ?_, by simp, ha⟩
  cases phase : s.ctl.phase <;> simp [phase, suspended] at hd ⊢

/-- The capture of a store is the settings in force (R154). -/
theorem storeSettings_safe (s : State) : Safe s { s with store.programming := some s.clock.now, store.capture := some s.cfg } := by
  refine .of_settings rfl ?_
  rintro ⟨hcfg, harea, hshadow, -⟩
  exact ⟨hcfg, harea, hshadow, fun c e => Option.some.inj e ▸ hcfg⟩

theorem cmdGetStatus_safe (p : List Byte) : CommandSafe (cmdGetStatus p) := fun s h => by
  unfold cmdGetStatus
  exact .ite (fun _ => refuse_commandSafe _ _ s h) fun _ =>
    Safe.replied (s := s) (t := { s with note.statusPart2 := !s.note.statusPart2 }) (.of rfl) (h.of_eq rfl rfl rfl) ..

theorem takeCause_safe (s : State) (pending : BitVec 13) : Safe s { s with note.pending := pending } := .of rfl

theorem clearOutstanding_safe (s : State) : Safe s { s with note.outstanding := false } := by
  refine .of_queues rfl ?_
  rintro - ⟨hd, hb, hu, hn, hk, hf, hq, hrun, rest⟩
  exact ⟨hd, hb, hu, hn, hk, hf, hq, fun h => ⟨(hrun h).1, (hrun h).2.1, rfl⟩, rest⟩

theorem cmdGetCause_safe (p : List Byte) : CommandSafe (cmdGetCause p) := fun s h => by
  unfold cmdGetCause
  refine .ite (fun _ => refuse_commandSafe _ _ s h) fun _ => Safe.after (sendNotice_safe _) ?_
  rcases eligible s with _ | ⟨c, rest⟩
  · exact (clearOutstanding_safe s).replied (h.of_eq rfl rfl rfl) ..
  · exact ((takeCause_safe s _).trans (clearOutstanding_safe _)).replied (h.of_eq rfl rfl rfl) ..

theorem cmdSetCauseEnables_safe (p : List Byte) : CommandSafe (cmdSetCauseEnables p) := fun s h => by
  unfold cmdSetCauseEnables
  exact .ite (fun _ => refuse_commandSafe _ _ s h) fun _ =>
    Safe.after (sendNotice_safe _) ((setEnables_safe (BitVec.ofNat 13 (u16At p 0)) s).replied (h.of_eq rfl rfl rfl) ..)

theorem cmdSetTime_safe (p : List Byte) : CommandSafe (cmdSetTime p) := fun s h => by
  unfold cmdSetTime
  exact .ite (fun _ => refuse_commandSafe _ _ s h) fun _ =>
    Safe.replied (s := s) (t := { s with clock.cabinet := BitVec.ofNat 32 (u32At p 0) }) (.of rfl) (h.of_eq rfl rfl rfl) ..

theorem cmdGetHistory_safe (p : List Byte) : CommandSafe (cmdGetHistory p) := fun s h => by
  unfold cmdGetHistory
  exact .ite (fun _ => refuse_commandSafe _ _ s h) fun _ => .ite (fun _ => refuse_commandSafe _ _ s h) fun _ => (Safe.refl s).replied h ..

theorem cmdGetLinkCounters_safe (p : List Byte) : CommandSafe (cmdGetLinkCounters p) := fun s h => by
  unfold cmdGetLinkCounters
  exact .ite (fun _ => refuse_commandSafe _ _ s h) fun _ => (Safe.refl s).replied h ..

theorem cmdClearCounters_safe (p : List Byte) : CommandSafe (cmdClearCounters p) := fun s h => by
  unfold cmdClearCounters
  exact .ite (fun _ => refuse_commandSafe _ _ s h) fun _ =>
    Safe.replied (s := s) (t := { s with
      link.c.counters := Counters.zero, link.b.counters := Counters.zero, pass := s.pass.map fun _ => EntryCounts.zero }) (.of rfl) (h.of_eq rfl rfl rfl) ..

theorem cmdPulse_safe (p : List Byte) : CommandSafe (cmdPulse p) := fun s h => by
  unfold cmdPulse
  refine .ite (fun _ => refuse_commandSafe _ _ s h) fun _ => ?_
  have offered := offerHeartbeat_safe .pulse p.head? h.powered h.released
  obtain ⟨link, lines⟩ := offerHeartbeat_link_lines .pulse p.head? s
  exact (offered.replied (h.of_eq offered.powered lines (congrArg LinkUnit.up link)) ..).settled

theorem cmdSetWatchdog_safe (p : List Byte) : CommandSafe (cmdSetWatchdog p) := fun s h => by
  unfold cmdSetWatchdog
  refine .ite (fun _ => refuse_commandSafe _ _ s h) fun _ => ?_
  rcases boolOfCode (u8At p 4) with _ | check
  · exact refuse_commandSafe _ _ s h
  · exact (setWatchdog_safe (readWatchdog p check) s).replied (h.of_eq rfl rfl rfl) ..

theorem cmdSuspendWatchdog_safe (p : List Byte) : CommandSafe (cmdSuspendWatchdog p) := fun s h => by
  unfold cmdSuspendWatchdog
  refine .ite (fun _ => refuse_commandSafe _ _ s h) fun _ => .ite (fun _ => refuse_commandSafe _ _ s h) fun run => ?_
  exact (suspend_safe (not_not.mp run) _).replied (h.of_eq rfl rfl rfl) ..

theorem cmdResumeWatchdog_safe (p : List Byte) : CommandSafe (cmdResumeWatchdog p) := fun s h => by
  unfold cmdResumeWatchdog
  refine .ite (fun _ => refuse_commandSafe _ _ s h) fun _ => .ite (fun _ => refuse_commandSafe _ _ s h) fun _ => ?_
  split
  next suspended => exact (endSuspension_safe _ suspended).replied (h.of_eq rfl rfl rfl) ..
  · exact (Safe.refl s).replied h ..

theorem cmdArmRestart_safe (p : List Byte) : CommandSafe (cmdArmRestart p) := fun s h => by
  unfold cmdArmRestart
  exact .ite (fun _ => refuse_commandSafe _ _ s h) fun _ => (armRestart_safe h (some (s.clock.now + sec 1))).replied (h.of_eq rfl rfl rfl) ..

theorem cmdRestart_safe (p : List Byte) (armed : Bool) : CommandSafe (cmdRestart p armed) := fun s h => by
  unfold cmdRestart
  have replied := (Safe.refl s).replied h 0x5C .ok []
  exact .ite (fun _ => refuse_commandSafe _ _ s h) fun _ => .ite (fun _ => refuse_commandSafe _ _ s h) fun _ =>
    .ite (fun _ => refuse_commandSafe _ _ s h) fun _ => .ite (fun _ => refuse_commandSafe _ _ s h) fun _ =>
    replied.trans (request_safe _ (replied.powered.trans h.powered))

theorem cmdSetPassEntry_safe (p : List Byte) : CommandSafe (cmdSetPassEntry p) := fun s h => by
  unfold cmdSetPassEntry
  refine .ite (fun _ => refuse_commandSafe _ _ s h) fun _ => .ite (fun _ => refuse_commandSafe _ _ s h) fun _ => ?_
  rcases judged : judgePassEntry p s with e | d
  · exact refuse_commandSafe _ _ s h
  · exact (writeEntry_safe judged).replied (h.of_eq rfl rfl rfl) ..

theorem cmdGetPassEntry_safe (p : List Byte) : CommandSafe (cmdGetPassEntry p) := fun s h => by
  unfold cmdGetPassEntry
  exact .ite (fun _ => refuse_commandSafe _ _ s h) fun _ => .ite (fun _ => refuse_commandSafe _ _ s h) fun _ => (Safe.refl s).replied h ..

/-- The answer record of a payload of the right length with its live fields inside is valid (R102). -/
theorem readAnswer_valid {p : List Byte} (length : ¬ (p.length < 6 ∨ p.length ≠ 6 + u8At p 5)) (short : ¬ 16 < u8At p 5)
    (fit : ¬ (!liveFieldsFit (readAnswer p)) = true) : (readAnswer p).valid = true := by
  simp only [Answer.valid, Bool.and_eq_true, decide_eq_true_eq]
  refine ⟨?_, by simpa using fit⟩
  simp only [readAnswer, List.length_drop]
  omega

theorem cmdSetAnswer_safe (p : List Byte) : CommandSafe (cmdSetAnswer p) := fun s h => by
  unfold cmdSetAnswer
  exact .ite (fun _ => refuse_commandSafe _ _ s h) fun length => .ite (fun _ => refuse_commandSafe _ _ s h) fun short =>
    .ite (fun _ => refuse_commandSafe _ _ s h) fun _ => .ite (fun _ => refuse_commandSafe _ _ s h) fun fit =>
    (setAnswer_safe _ s (readAnswer_valid length short fit)).replied (h.of_eq rfl rfl rfl) ..

theorem cmdGetAnswer_safe (p : List Byte) : CommandSafe (cmdGetAnswer p) := fun s h => by
  unfold cmdGetAnswer
  exact .ite (fun _ => refuse_commandSafe _ _ s h) fun _ => .ite (fun _ => refuse_commandSafe _ _ s h) fun _ => (Safe.refl s).replied h ..

theorem cmdSetDefaultActions_safe (p : List Byte) : CommandSafe (cmdSetDefaultActions p) := fun s h => by
  unfold cmdSetDefaultActions
  refine .ite (fun _ => refuse_commandSafe _ _ s h) fun _ => ?_
  split
  next d u _ _ => exact (setDefaults_safe d u s).replied (h.of_eq rfl rfl rfl) ..
  · exact refuse_commandSafe _ _ s h

theorem allocateNow_hasRoom {s : State} (h : HasRoom s) : HasRoom (allocateNow s) :=
  h.of_eq (allocate_powered ..) (congrArg Lines.pcRst (allocate_lines ..)) (allocate_up ..)

theorem cmdSetThermal_safe (p : List Byte) : CommandSafe (cmdSetThermal p) := fun s h => by
  unfold cmdSetThermal
  refine .ite (fun _ => refuse_commandSafe _ _ s h) fun _ => .ite (fun _ => ?channels) fun _ => .ite (fun _ => ?sensing)
    fun _ => refuse_commandSafe _ _ s h
  case channels =>
    have set_ := (setChannelSettings_safe (readChannels p) s).trans (refreshSummaries_safe _)
    obtain ⟨link, lines⟩ := refreshSummaries_link_lines { s with cfg.channels := clampChannels (readChannels p) }
    have room := h.of_eq set_.powered (congrArg Lines.pcRst lines) (congrArg LinkUnit.up link)
    exact (Safe.after (allocateNow_safe _) (Safe.after (sendNotice_safe _) (set_.replied room ..))).settled
  case sensing =>
    rcases WarmUpPolicy.ofCode (u8At p 11) with _ | policy
    · exact refuse_commandSafe _ _ s h
    · have set_ := (setSensing_safe (readSensing p policy) s).trans (allocateNow_safe _)
      exact (set_.replied (allocateNow_hasRoom (s := { s with cfg.sensing := clampSensing (readSensing p policy) }) (h.of_eq rfl rfl rfl)) ..).settled

theorem cmdGetThermal_safe (p : List Byte) : CommandSafe (cmdGetThermal p) := fun s h => by
  unfold cmdGetThermal
  exact .ite (fun _ => refuse_commandSafe _ _ s h) fun _ => .ite (fun _ => (Safe.refl s).replied h ..) fun _ =>
    .ite (fun _ => (Safe.refl s).replied h ..) fun _ => refuse_commandSafe _ _ s h

theorem cmdSetBudget_safe (p : List Byte) : CommandSafe (cmdSetBudget p) := fun s h => by
  unfold cmdSetBudget
  exact .ite (fun _ => refuse_commandSafe _ _ s h) fun _ =>
    ((setBudget_safe p s).replied (allocateNow_hasRoom (s := { s with cfg.budget := readBudget p }) (h.of_eq rfl rfl rfl)) ..).settled

theorem cmdGetChannelDiag_safe (p : List Byte) : CommandSafe (cmdGetChannelDiag p) := fun s h => by
  unfold cmdGetChannelDiag
  refine .ite (fun _ => refuse_commandSafe _ _ s h) fun _ => ?_
  have cleared : Safe s { s with
      chan.h0.ch := clearSettledFlags s.chan.h0.ch, chan.h1.ch := clearSettledFlags s.chan.h1.ch
      chan.fan.ch := clearSettledFlags s.chan.fan.ch } := .of rfl
  have refreshed := cleared.trans (refreshSummaries_safe _)
  obtain ⟨link, lines⟩ := refreshSummaries_link_lines { s with
      chan.h0.ch := clearSettledFlags s.chan.h0.ch, chan.h1.ch := clearSettledFlags s.chan.h1.ch
      chan.fan.ch := clearSettledFlags s.chan.fan.ch }
  exact refreshed.replied (h.of_eq refreshed.powered (congrArg Lines.pcRst lines) (congrArg LinkUnit.up link)) ..

theorem cmdClearChannelLock_safe (p : List Byte) : CommandSafe (cmdClearChannelLock p) := fun s h => by
  unfold cmdClearChannelLock
  refine .ite (fun _ => refuse_commandSafe _ _ s h) fun _ => ?_
  rcases channelOfIndex (u8At p 0) with _ | c
  · exact refuse_commandSafe _ _ s h
  · have cleared := (clearLock_safe c s).trans (syncSwitches_safe _)
    obtain ⟨link, lines⟩ := clearLock_link_lines c s
    exact cleared.replied (h.of_eq cleared.powered (congrArg Lines.pcRst lines) (congrArg LinkUnit.up link)) ..

theorem cmdSetKeypad_safe (p : List Byte) : CommandSafe (cmdSetKeypad p) := fun s h => by
  unfold cmdSetKeypad
  exact .ite (fun _ => refuse_commandSafe _ _ s h) fun _ => (setKeypad_safe _ s).replied (h.of_eq rfl rfl rfl) ..

theorem cmdSetKeymap_safe (p : List Byte) : CommandSafe (cmdSetKeymap p) := fun s h => by
  unfold cmdSetKeymap
  refine .ite (fun _ => refuse_commandSafe _ _ s h) fun _ => .ite (fun _ => refuse_commandSafe _ _ s h) fun _ => ?_
  have set_ := setKeymapEntries_safe p (u8At p 0) (u8At p 1) s
  obtain ⟨link, lines⟩ := setKeymapEntries_link_lines p (u8At p 0) (u8At p 1) s
  exact (set_.replied (h.of_eq set_.powered (congrArg Lines.pcRst lines) (congrArg LinkUnit.up link)) ..).settled

theorem cmdSetChord_safe (p : List Byte) : CommandSafe (cmdSetChord p) := fun s h => by
  unfold cmdSetChord
  refine .ite (fun _ => refuse_commandSafe _ _ s h) fun _ => .ite (fun _ => refuse_commandSafe _ _ s h) fun _ => ?_
  rcases judged : judgeChord p with _ | asked
  · exact refuse_commandSafe _ _ s h
  · exact (setChord_safe _ _ s (judgeChord_valid judged)).replied (h.of_eq rfl rfl rfl) ..

theorem cmdStoreSettings_safe (p : List Byte) : CommandSafe (cmdStoreSettings p) := fun s h => by
  unfold cmdStoreSettings
  exact .ite (fun _ => refuse_commandSafe _ _ s h) fun _ => .ite (fun _ => refuse_commandSafe _ _ s h) fun _ =>
    (storeSettings_safe s).replied (h.of_eq rfl rfl rfl) ..

theorem runCommand_safe (cls : Byte) (p : List Byte) (armed : Bool) : CommandSafe (runCommand cls p armed) := by
  unfold runCommand
  split
  · exact cmdGetStatus_safe p
  · exact cmdGetCause_safe p
  · exact cmdSetCauseEnables_safe p
  · exact cmdSetTime_safe p
  · exact cmdGetHistory_safe p
  · exact cmdPulse_safe p
  · exact cmdGetLinkCounters_safe p
  · exact cmdClearCounters_safe p
  · exact cmdSetPassEntry_safe p
  · exact cmdGetPassEntry_safe p
  · exact cmdSetAnswer_safe p
  · exact cmdGetAnswer_safe p
  · exact cmdSetDefaultActions_safe p
  · exact cmdSetThermal_safe p
  · exact cmdGetThermal_safe p
  · exact cmdSetBudget_safe p
  · exact cmdGetChannelDiag_safe p
  · exact cmdClearChannelLock_safe p
  · exact cmdSetKeypad_safe p
  · exact cmdSetWatchdog_safe p
  · exact cmdSuspendWatchdog_safe p
  · exact cmdResumeWatchdog_safe p
  · exact cmdArmRestart_safe p
  · exact cmdRestart_safe p armed
  · exact cmdSetKeymap_safe p
  · exact cmdSetChord_safe p
  · exact cmdStoreSettings_safe p
  · exact refuse_commandSafe cls .unknown

end Sys2Proof.Machine
end

section
/-! Safe rows: the pass table, the receivers, the transmitters, the channels, the samples and the scan passes; and with them every step. -/

namespace Sys2Proof.Machine

/-! ## The pass table (R94 to R101) -/

theorem onCounts_safe (i : Nat) (f : EntryCounts → EntryCounts) (s : State) : Safe s (onCounts i f s) := by
  unfold onCounts
  split
  · exact .refl s
  · exact .of rfl

theorem countSpecialIf_safe (b : Bool) (i : Nat) (s : State) : Safe s (countSpecialIf b i s) :=
  .ite (fun _ => onCounts_safe ..) fun _ => .refl s

theorem onCounts_lines (i : Nat) (f : EntryCounts → EntryCounts) (s : State) : (onCounts i f s).lines = s.lines := by
  unfold onCounts
  split <;> rfl

theorem countHit_safe (i : Nat) (s : State) : Safe s (countHit i s) := onCounts_safe ..

theorem countHit_lines (i : Nat) (s : State) : (countHit i s).lines = s.lines := onCounts_lines ..

theorem forward_safe (dir : Direction) (f : Frame) (s : State) : Safe s (forward dir f s) := by
  cases dir
  · exact offerDown_safe ..
  · exact .ite (fun _ => .refl s) fun released => offerForwarded_safe _ _ (Bool.eq_false_iff.mpr released)

/-- An answer goes upstream only to a request from the computer, which comes with PC_RST# released (R82, R100). -/
theorem answer_safe (entry index : Nat) (dir : Direction) (f : Frame) {s : State} (hr : dir = .down → s.lines.pcRst = false) :
    Safe s (answer entry index dir f s) := by
  unfold answer
  cases dir
  · exact Safe.after (countSpecialIf_safe ..) (offerForwarded_safe _ _ (hr rfl))
  · exact Safe.after (countSpecialIf_safe ..) (offerDown_safe ..)

theorem heartbeatAction_safe (i : Nat) (d : PassDef) (f : Frame) {s : State} (hp : s.powered = true) (hr : s.lines.pcRst = false) :
    Safe s (heartbeatAction i d f s) := by
  unfold heartbeatAction
  have offered := Safe.after (sendNotice_safe _) (Safe.after (countSpecialIf_safe
    ((offerHeartbeat (.entry i) (offerToken d f) s).2 == some false) i _) (offerHeartbeat_safe (.entry i) (offerToken d f) hp hr))
  exact .ite (fun _ => offered.trans (forward_safe ..)) fun _ => offered

/-- What the backlight record takes from a computer's level frame, before the frame joins the queue (R67). -/
theorem takeLevel_safe (s : State) (l : Nat) (c : Bool) (t : Option Frame) (o : Option Nat) :
    Safe s { s with bud.back.lReq := l, bud.back.clamped := c, bud.back.template := t, bud.back.levelOffset := o } := .of rfl

theorem forwardLevel_safe (s : State) (l : Nat) (r : Bool) : Safe s { s with bud.back.lFwd := l, bud.back.resend := r } := .of rfl

theorem computerLevel_safe (f : Frame) (offset : Nat) (s : State) : Safe s (computerLevel f offset s).1 := by
  unfold computerLevel
  refine Safe.after (judgeUnenforced_safe _) ?_
  exact .ite
    (fun _ => Safe.after (forwardLevel_safe ..) (Safe.after (offerDown_safe ..) (Safe.after (takeLevel_safe ..) (supersede_safe s))))
    fun _ => Safe.after (setResend_safe ..) (Safe.after (offerDown_safe ..) (Safe.after (takeLevel_safe ..) (supersede_safe s)))

theorem clampAction_safe (i : Nat) (d : PassDef) (f : Frame) (s : State) : Safe s (clampAction i d f s) :=
  .ite (fun _ => Safe.after (countSpecialIf_safe ..) (computerLevel_safe ..)) fun _ => onCounts_safe ..

theorem performAction_safe (i : Nat) (d : PassDef) (dir : Direction) (f : Frame) {s : State} (hp : s.powered = true)
    (hr : dir = .down → s.lines.pcRst = false) : Safe s (performAction i d dir f s) := by
  unfold performAction
  cases d.action
  case forward => exact forward_safe ..
  case drop => exact .refl s
  case answer => exact answer_safe _ _ _ _ hr
  case heartbeat =>
    cases dir
    · exact heartbeatAction_safe _ _ _ hp (hr rfl)
    · exact .refl s
  case clampLevel =>
    cases dir
    · exact clampAction_safe ..
    · exact .refl s

theorem passFrame_safe (dir : Direction) (f : Frame) {s : State} (hp : s.powered = true) (hr : dir = .down → s.lines.pcRst = false) :
    Safe s (passFrame dir f s) := by
  unfold passFrame
  split
  · exact Safe.afterOn hp (fun hp => performAction_safe _ _ _ _ hp fun down => by rw [countHit_lines]; exact hr down)
      (countHit_safe _ s)
  · cases defaultAction dir s
    · exact forward_safe ..
    · exact .refl s

/-! ## The receivers (R78, R79, R82, R84) -/

theorem handOver_safe {act : Bool → State → State} (safe : ∀ armed, CommandSafe (act armed)) {s : State} (hp : s.powered = true)
    (hr : s.lines.pcRst = false) : Safe s (handOver act s) :=
  .ite (fun room => (clearArm_safe s).trans (safe _ _ ⟨hp, hr, room⟩)) fun _ =>
    (Safe.after (raise_safe ..) (countOn_safe .c _ s)).settled

theorem commandArrives_safe {act : Bool → State → State} (safe : ∀ armed, CommandSafe (act armed)) {s : State} (hp : s.powered = true) :
    Safe s (commandArrives act s) :=
  (countOn_safe .c _ s).trans <| .ite (fun _ => discardInReset_safe _) fun released =>
    handOver_safe safe hp (Bool.eq_false_iff.mpr released)

theorem routeC_safe (f : Frame) {s : State} (hp : s.powered = true) : Safe s (routeC f s) := by
  unfold routeC commandFrame
  refine .ite (fun _ => discardInReset_safe s) fun released => .ite (fun _ => countOn_safe ..) fun _ => .ite (fun _ => ?_) fun _ =>
    .ite (fun _ => ?_) fun _ => countOn_safe ..
  · exact .ite (fun _ => handOver_safe (act := runCommand f.cls f.payload) (runCommand_safe f.cls f.payload) hp (Bool.eq_false_iff.mpr released)) fun _ => countOn_safe ..
  · exact (passFrame_safe .down f hp fun _ => Bool.eq_false_iff.mpr released).settled

theorem routeB_safe (f : Frame) {s : State} (hp : s.powered = true) : Safe s (routeB f s) := by
  unfold routeB
  exact .ite (fun _ => countOn_safe ..) fun _ => .ite (fun _ => (passFrame_safe .up f hp fun h => Direction.noConfusion h).settled) fun _ => countOn_safe ..

theorem goodFrame_safe (p : PortId) (f : Frame) {s : State} (hp : s.powered = true) : Safe s (goodFrame p f s) := by
  cases p
  · exact (countOn_safe .c _ s).trans (routeC_safe f hp)
  · exact (countOn_safe .b _ s).trans (routeB_safe f hp)

theorem examine_safe (p : PortId) (fuel : Nat) : ∀ (l : List Byte) {s : State}, s.powered = true → Safe s (examine p fuel l s).2 := by
  induction fuel with
  | zero => exact fun _ s _ => .refl s
  | succ fuel ih =>
    intro l s hp
    have counted (f : Counters → Counters) (l : List Byte) : Safe s (examine p fuel l (countOn p f s)).2 :=
      (countOn_safe p f s).trans (ih l ((countOn_safe p f s).powered.trans hp))
    unfold examine
    simp only
    split
    · exact .refl s
    · split
      · exact counted ..
      · split
        · exact .refl s
        · split
          · exact (goodFrame_safe p _ hp).trans (ih _ ((goodFrame_safe p _ hp).powered.trans hp))
          · exact counted ..

theorem receive_safe (p : PortId) (l : List Byte) {s : State} (hp : s.powered = true) : Safe s (receive p l s) :=
  (examine_safe p l.length l hp).trans (setPort_safe p rfl)

/-! ## The transmitters (R76, R85, R87) -/

/-- The arbiter takes one frame out of the queue (R85). -/
theorem takeByRank_sublist {l rest : List UpFrame} {f : UpFrame} (h : takeByRank l = some (f, rest)) : rest.Sublist l := by
  induction l generalizing f rest with
  | nil => exact absurd h (by simp [takeByRank])
  | cons x l ih =>
    unfold takeByRank at h
    split at h
    · simp only [Option.some.injEq, Prod.mk.injEq] at h
      exact h.2 ▸ List.sublist_cons_self x l
    next g others taken =>
      split at h
      · simp only [Option.some.injEq, Prod.mk.injEq] at h
        exact h.2 ▸ (ih taken).cons_cons x
      · simp only [Option.some.injEq, Prod.mk.injEq] at h
        exact h.2 ▸ List.sublist_cons_self x l

theorem startFrame_safe (p : PortId) (s : State) : Safe s (startFrame p s) := by
  unfold startFrame
  refine .ite (fun _ => ?_) fun _ => .refl s
  cases p
  · simp only
    split
    · exact .refl s
    next f rest taken =>
      exact Safe.settled <| (putSending_safe .c f.frame s).trans (setUp_safe_of_sublist (takeByRank_sublist taken))
  · simp only
    split
    · exact .refl s
    next f rest head =>
      refine (putSending_safe .b f.frame s).trans (setDown_safe_of_sublist ?_)
      exact (head ▸ List.sublist_cons_self f rest : rest.Sublist s.link.down)

theorem rdyChanges_safe (p : PortId) (s : State) : Safe s (rdyChanges p s) :=
  Safe.after (startFrame_safe ..) <| Safe.after (syncStall_safe ..) <| .ite (fun _ => unstall_safe p s) fun _ => .refl s

/-! ## The channels (chapter 3) -/

theorem syncHeater_safe (h : HeaterId) (s : State) : Safe s (syncHeater h s) := by cases h <;> exact .of rfl

theorem syncFan_safe (s : State) : Safe s (syncFan s) := .of rfl

/-- A channel that enters LOCKED_OFF is off (R48). -/
theorem lockOff_safe (c : ChannelId) (s : State) : Safe s (lockOff c s) := by
  cases c
  · refine .of_power rfl ?_
    rintro ⟨htot, -, rest⟩
    exact ⟨htot, ⟨Nat.zero_le _, Nat.zero_le _, rfl, fun _ => rfl, fun _ => ⟨rfl, fun h => nomatch h⟩, fun _ => rfl⟩, rest⟩
  · refine .of_power rfl ?_
    rintro ⟨htot, h0, -, rest⟩
    exact ⟨htot, h0, ⟨Nat.zero_le _, Nat.zero_le _, rfl, fun _ => rfl, fun _ => ⟨rfl, fun h => nomatch h⟩, fun _ => rfl⟩, rest⟩
  · refine .of_power rfl ?_
    rintro ⟨htot, h0, h1, -⟩
    exact ⟨htot, h0, h1, Nat.zero_le _, Nat.zero_le _, fun _ => rfl⟩

theorem tripChannel_safe (c : ChannelId) (s : State) : Safe s (tripChannel c s) := by
  have flagged := Safe.after (flagCondition_safe c overcurrentBit _) (setChannel_safe c (s := s)
    (x := { channelOf c s with holdOff := true, trips := youngTrips s.clock.now (channelOf c s).trips ++ [s.clock.now] }) rfl rfl)
  exact Safe.after (syncSwitches_safe _) (.ite (fun _ => flagged.trans (lockOff_safe ..)) fun _ => flagged)

theorem ageTrips_safe (c : ChannelId) (s : State) : Safe s (ageTrips c s) := by
  unfold ageTrips
  simp only
  split <;> exact setChannel_safe c rfl rfl

theorem clearHeaterCondition_safe (h : HeaterId) (bit : BitVec 3) (s : State) : Safe s (clearHeaterCondition h bit s) :=
  setChannel_safe _ rfl rfl

/-- The fan record replaced by one of the same duty and state. -/
theorem setFan_safe {x : Fan} {s : State} (ha : x.ch.applied = s.chan.fan.ch.applied) (hst : x.ch.state = s.chan.fan.ch.state) :
    Safe s { s with chan.fan := x } :=
  .of_power rfl (powerInBudget_of_view rfl (by simp only [powerView, ha, hst]))

theorem tachPulses_safe (s : State) : Safe s (tachPulses s) := by
  unfold tachPulses
  simp only
  split
  · exact .of rfl
  · refine Safe.after (syncFan_safe _) (setFan_safe ?_ ?_) <;> simp only <;> split <;> rfl

theorem stallFound_safe (s : State) : Safe s (stallFound s) :=
  Safe.after (raiseIf_safe ..) (Safe.after (sendNotice_safe _) (flagCondition_safe ..))

theorem setComparator_safe (c : ChannelId) (k : Comparator) (r : Bool) (s : State) : Safe s (setComparator c k r s) := by
  cases c
  · exact .of rfl
  · exact .of rfl
  · cases k <;> exact .of rfl

theorem syncChannel_safe (c : ChannelId) (s : State) : Safe s (syncChannel c s) := by
  cases c
  · exact syncHeater_safe .h0 s
  · exact syncHeater_safe .h1 s
  · exact syncFan_safe s

theorem beginPeriod_safe (s : State) : Safe s (beginPeriod s) := .of rfl

theorem inhibitHeaters_safe (s : State) : Safe s (inhibitHeaters s) := .allocated _ rfl (settingsInRange_of_view rfl)

theorem releaseHeaters_safe (s : State) : Safe s (releaseHeaters s) := .allocated _ rfl (settingsInRange_of_view rfl)

/-! ## The sample (chapter 2) -/

theorem convert_inWindow (r : RawCode) (trim : Int) : inWindow (convert r trim) = true := by
  unfold inWindow within convert
  rw [Bool.and_eq_true, decide_eq_true_eq, decide_eq_true_eq]
  omega

theorem filterStep_inWindow {f t : Int} (hf : inWindow f = true) (ht : inWindow t = true) : inWindow (filterStep f t) = true := by
  simp only [inWindow, within, Bool.and_eq_true, decide_eq_true_eq] at hf ht ⊢
  rcases lt_trichotomy f t with rising | rfl | falling
  · have := filterStep_le_of_lt rising
    have := filterStep_of_lt rising
    omega
  · rwa [filterStep_self]
  · have := le_filterStep_of_gt falling
    have := filterStep_of_gt falling
    omega

theorem failSensor_sound {x : Sensor} (h : x.sound) : (failSensor x).sound := by
  obtain ⟨-, -, hf, hr, -, -, -⟩ := h
  exact ⟨le_rfl, Nat.zero_lt_succ _, hf, hr, fun h => SensorState.noConfusion h, fun h => SensorState.noConfusion h, by simp [failSensor]⟩

theorem validSensor_sound {t : Int} (ht : inWindow t = true) (x : Sensor) : (validSensor t x).sound := by
  simp [Sensor.sound, validSensor, ht]

theorem sampleSensor_sound (trim : Int) (r : RawCode) {x : Sensor} (h : x.sound) : (sampleSensor trim r x).sound := by
  have window := convert_inWindow r trim
  have valid : (validSample (convert r trim) x).sound := by
    unfold validSample
    split
    · exact validSensor_sound window x
    next state =>
      obtain ⟨-, hv, hf, -, -, hsome, -⟩ := h
      obtain ⟨f, held⟩ := Option.isSome_iff_exists.mp (hsome state)
      have stepped := filterStep_inWindow (hf f held) window
      simpa [Sensor.sound, state, held, window, stepped] using hv
    next state =>
      obtain ⟨hn, -, hf, -, -, -, hfail⟩ := h
      split
      · exact validSensor_sound window x
      next short =>
        refine ⟨hn, ?_, hf, ?_, fun h => absurd (state.symm.trans h) (by decide), fun h => absurd (state.symm.trans h) (by decide), hfail⟩
        · simp only; omega
        · rintro t e
          exact Option.some.inj e ▸ window
  have faulty : (faultySample x).sound := by
    unfold faultySample
    split
    · obtain ⟨hn, -, rest⟩ := h
      exact ⟨hn, by simp, rest⟩
    all_goals
      split
      · exact failSensor_sound h
      next state short =>
        obtain ⟨-, hv, hf, hr, hs, hsome, -⟩ := h
        refine ⟨?_, hv, hf, hr, hs, hsome, ?_⟩
        · simp only; omega
        · simp only [state]
          constructor
          · exact fun h => nomatch h
          · omega
  unfold sampleSensor
  split
  · exact valid
  all_goals exact faulty

theorem setSensor_safe {i : SensorId} {x : Sensor} {s : State} (h : (sensorOf i s).sound → x.sound) : Safe s (setSensor i x s) := by
  cases i
  · exact .of_sensors rfl (fun ⟨ha, hd, hb, rest⟩ => ⟨h ha, hd, hb, rest⟩)
  · exact .of_sensors rfl (fun ⟨ha, hd, hb, rest⟩ => ⟨ha, h hd, hb, rest⟩)
  · exact .of_sensors rfl (fun ⟨ha, hd, hb, rest⟩ => ⟨ha, hd, h hb, rest⟩)

theorem updateSensor_safe {i : SensorId} {x : Sensor} {s : State} (h : (sensorOf i s).sound → x.sound) : Safe s (updateSensor i x s) :=
  Safe.after (raiseIf_safe ..) (setSensor_safe h)

theorem sampleOne_safe (i : SensorId) (r : RawCode) (s : State) : Safe s (sampleOne i r s) :=
  updateSensor_safe fun h => sampleSensor_sound _ r h

theorem usable_inWindow {x : Sensor} (h : x.sound) {t : Int} (e : usable x = some t) : inWindow t = true := by
  unfold usable at e
  split at e
  · exact h.2.2.1 t e
  · exact absurd e (by simp)

theorem or_inWindow {x y : Sensor} (hx : x.sound) (hy : y.sound) (t : Int) (e : (usable x).or (usable y) = some t) : inWindow t = true := by
  rcases Option.or_eq_some_iff.mp e with own | ⟨-, substitute⟩
  · exact usable_inWindow hx own
  · exact usable_inWindow hy substitute

theorem formReadings_safe (s : State) : Safe s (formReadings s) :=
  .of_sensors rfl (fun ⟨ha, hd, hb, _⟩ => ⟨ha, hd, hb, or_inWindow ha hb, or_inWindow hd ha, or_inWindow hb ha⟩)

theorem sampleSensors_safe (a d b : RawCode) (s : State) : Safe s (sampleSensors a d b s) :=
  (sampleOne_safe .air a s).trans <| (sampleOne_safe .display d _).trans <| (sampleOne_safe .board b _).trans (formReadings_safe _)

theorem setGate_safe (g : Gate) (s : State) : Safe s { s with sens.gate := g } := .of rfl

theorem completeSoak_safe {s : State} (hp : s.powered = true) : Safe s (completeSoak s) :=
  Safe.trans (t := { s with sens.gate.complete := true }) (.of rfl) (.ite (fun preheat => enterPowerOn_safe hp preheat) fun _ => .refl _)

theorem updateGate_safe {s : State} (hp : s.powered = true) : Safe s (updateGate s) := by
  unfold updateGate
  refine .ite (fun _ => .ite (fun _ => setGate_safe ..) fun _ => .ite (fun _ => setGate_safe ..) fun _ => ?_)
    fun _ => .ite (fun _ => setGate_safe ..) fun _ => setGate_safe ..
  exact .ite (fun _ => (setGate_safe _ s).trans (completeSoak_safe hp)) fun _ => setGate_safe ..

theorem setWarnRaised_safe (b : Bool) (s : State) : Safe s { s with sens.warnRaised := b } := .of rfl

theorem updateWarning_safe (s : State) : Safe s (updateWarning s) := by
  unfold updateWarning
  split
  · exact .refl s
  · exact .ite (fun _ => .ite (fun _ => setWarnRaised_safe ..) fun _ => .refl s) fun _ =>
      .ite (fun _ => Safe.after (raise_safe ..) (setWarnRaised_safe ..)) fun _ => .refl s

theorem setDwell_safe (n : Nat) (s : State) : Safe s { s with sens.dwellMs := n } := .of rfl

theorem overheat_safe {s : State} (hp : s.powered = true) : Safe s (overheat s) :=
  (setDwell_safe 0 s).trans (request_safe .overheat hp)

theorem updateDwell_safe {s : State} (hp : s.powered = true) : Safe s (updateDwell s) :=
  .ite (fun _ => setDwell_safe ..) fun _ => .ite (fun _ => overheat_safe hp) fun _ => setDwell_safe ..

theorem setCooling_safe (c : Cooling) (s : State) : Safe s { s with chan.cooling := c } := .of rfl

theorem updateCooling_safe (s : State) : Safe s (updateCooling s) := by
  unfold updateCooling
  simp only
  split
  · refine .ite (fun _ => .ite (fun _ => Safe.after (raise_safe ..) (setCooling_safe ..)) fun _ => setCooling_safe ..) fun _ =>
      .ite (fun _ => .ite (fun _ => setCooling_safe ..) fun _ => setCooling_safe ..) fun _ => setCooling_safe ..
  · exact setCooling_safe ..

theorem cooldownExit_safe {s : State} (hp : s.powered = true) : Safe s (cooldownExit s) := by
  unfold cooldownExit
  refine .ite (fun _ => ?_) fun _ => .refl s
  split
  · exact .refl s
  · exact .ite (fun _ => .ite (fun _ => enterLockout_safe s) fun _ => enterPreheat_safe hp) fun _ => .refl s

theorem sample_safe (a d b : RawCode) {s : State} (hp : s.powered = true) : Safe s (sample a d b s) := by
  have read : Safe s { s with pins.air := a, pins.display := d, pins.board := b, sens.sampleAt := s.clock.now } := .of rfl
  have sampled := (read.trans (sampleSensors_safe a d b _)).trans (sendNotice_safe _)
  have gated := sampled.trans (updateGate_safe (sampled.powered.trans hp))
  have warned := (gated.trans (updateWarning_safe _)).trans (sendNotice_safe _)
  have dwelt := warned.trans (updateDwell_safe (warned.powered.trans hp))
  have cooled := dwelt.trans (updateCooling_safe _)
  exact cooled.trans (cooldownExit_safe (cooled.powered.trans hp))

/-! ## The scan pass (R125) -/

theorem offerAll_safe (l : List (Option Made × Nat)) (s : State) : Safe s (offerAll l s) := by
  unfold offerAll
  induction l generalizing s with
  | nil => exact .refl s
  | cons x l ih => exact (offerMade_safe ..).trans (ih _)

theorem offerChord_safe (i : Nat) (s : State) : Safe s (offerChord i s) := admitEvent_safe ..

theorem offerChords_safe (l : List Nat) (s : State) : Safe s (l.foldl (fun s i => offerChord i s) s) := by
  induction l generalizing s with
  | nil => exact .refl s
  | cons i l ih => exact (offerChord_safe i s).trans (ih _)

theorem setChords_safe (l : List ChordRun) (s : State) : Safe s { s with keys.chords := l } := .of rfl

theorem scan_safe (m : Matrix) {s : State} (hp : s.powered = true) : Safe s (scan m s) := by
  unfold scan
  have read : Safe s { s with
      pins.matrix := m, keys.scanAt := s.clock.now, keys.pressEff := pressEff s, keys.relEff := relEff s
      keys.coldPress := coldNow s, keys.coldRel := coldNow s } := .of rfl
  exact Safe.afterOn hp (handFirings_safe _) <| Safe.after (offerChords_safe ..) <| Safe.after (offerAll_safe ..) <|
    Safe.after (setChords_safe ..) <| Safe.after (setKeys_safe ..) read

theorem moveKey_safe (p : Nat) (ready : Key → Bool) (act : Key → Key × Option Made) (s : State) : Safe s (moveKey p ready act s) := by
  unfold moveKey
  split
  · exact .refl s
  · exact .ite (fun _ => (Safe.after (offerMade_safe ..) (setKeys_safe ..)).settled) fun _ => .refl s

end Sys2Proof.Machine
end

section
/-! Every step keeps every invariant: each command's row is a safe event, and so is an idle step. -/

namespace Sys2Proof.Machine

/-! ## What a step keeps -/

/-- What every step keeps, a reset and a brown-out among them. -/
structure StepKept (s t : State) : Prop extends Kept s t where
  supervised : Supervised s → Supervised t

/-- An answer whose next state keeps what a step keeps. -/
def AnswerKept (s : State) (o : Host.Outcome State Fault Refusal) : Prop := ∀ t, o = .next t → StepKept s t

theorem Safe.stepKept {s t : State} (h : Safe s t) : StepKept s t := ⟨h.toKept, h.supervised⟩

theorem StepKept.trans {s t u : State} (h : StepKept s t) (k : StepKept t u) : StepKept s u :=
  ⟨h.toKept.trans k.toKept, k.supervised ∘ h.supervised⟩

theorem AnswerKept.next {s t : State} (h : StepKept s t) : AnswerKept s (.next t) := by
  rintro _ ⟨⟩
  exact h

theorem AnswerKept.whenOn {s t : State} {f : State → State} (h : Safe s t) (safe : t.powered = true → Safe t (f t)) :
    AnswerKept s (whenOn t f) :=
  .next (h.trans (.ite safe fun _ => .refl t)).stepKept

/-- A row that acts within the operating range alone. -/
theorem whenOn_kept {s : State} {f : State → State} (safe : s.powered = true → Safe s (f s)) : AnswerKept s (whenOn s f) :=
  .whenOn (.refl s) safe

/-- A row that acts where its own condition holds. -/
theorem Safe.when {s t : State} {p : Prop} [Decidable p] (safe : p → Safe s t) : Safe s (if p then t else s) := .ite safe fun _ => .refl s

/-! ## The phase controller and the supply (chapter 1) -/

theorem warmUpExpires_safe {s : State} (hp : s.powered = true) (due : warmUpDue s = true) : Safe s (warmUpExpires s) := by
  have preheat : s.ctl.phase = .preheat := by
    unfold warmUpDue at due
    split at due <;> simp_all
  unfold warmUpExpires
  split
  · have raised := raiseIf_safe (s.sens.board.state == .failed || s.sens.display.state == .failed) .sensorFault s
    exact raised.trans (enterPowerOn_safe (raised.powered.trans hp) ((raiseIf_ctl ..).symm ▸ preheat))
  · refine .of_supervised rfl ?_
    rintro ⟨lines, ⟨-, rest⟩, sup⟩
    exact ⟨lines, ⟨by simp [preheat], rest⟩, sup⟩

theorem setSupplyTimers_safe {s : State} {stability supplyLoss : Option Nat} (powerOn : stability.isSome = true → s.ctl.phase = .powerOn)
    (watched : supplyLoss.isSome = true → watchesSupply s.ctl.phase = true) :
    Safe s { s with ctl.stability := stability, ctl.supplyLoss := supplyLoss } := by
  refine .of_supervised rfl ?_
  rintro ⟨lines, ⟨hw, hwait, -, -, rest⟩, sup⟩
  exact ⟨lines, ⟨hw, hwait, powerOn, watched, rest⟩, sup⟩

theorem pwrgoodRises_safe (s : State) : Safe s (pwrgoodRises s) := by
  refine setSupplyTimers_safe ?_ fun h => absurd h Bool.false_ne_true
  split <;> simp [*]

theorem pwrgoodFalls_safe (s : State) : Safe s (pwrgoodFalls s) := by
  refine setSupplyTimers_safe (fun h => absurd h Bool.false_ne_true) ?_
  split <;> simp [*]

theorem setPwrgood_safe (b : Bool) (s : State) : Safe s { s with pins.pwrgood := b } := .of rfl

theorem pwrEnPhase_of_phase {s : State} {p : Phase} (phase : s.ctl.phase = p) (on : pwrEnPhase p = true) : pwrEnPhase s.ctl.phase = true :=
  phase ▸ on

/-- The PWRGOOD wait's expiry stops the wait in POWER_ON, which the action then leaves (R12). -/
theorem waitExpires_safe {s : State} (hp : s.powered = true) (powerOn : s.ctl.phase = .powerOn) :
    Safe s (request .supplyFail { s with ctl.wait := none, ctl.stability := none }) where
  toKept := Kept.trans (t := { s with ctl.wait := none, ctl.stability := none }) (.of rfl) (request_kept _ _)
  lines h := request_followsPhase _ hp (linesFollowPhase_of_view (s := s) rfl h)
  supervised h := request_supervised_of_counted hp (linesFollowPhase_of_view (s := s) rfl h.1) h.suspendedInRun rfl (.inl powerOn)
  powered := request_powered ..

/-- The deadline's expiry stops it in BOOT or RUN, which the action then leaves (R113). -/
theorem deadlineExpires_safe {c : RestartCause} {s : State} (hp : s.powered = true) (cause : deadlineCause s.sup.deadline = some c) :
    Safe s (request c { s with sup.deadline := .stopped }) where
  toKept := Kept.trans (t := { s with sup.deadline := .stopped }) (.of rfl) (request_kept _ _)
  lines h := request_followsPhase _ hp (linesFollowPhase_of_view (s := s) rfl h)
  supervised h := by
    have held := h.suspendedInRun
    obtain ⟨lines, -, follows, -, -⟩ := h
    have counted : isCounted c = true := by
      cases hd : s.sup.deadline <;> simp only [hd, deadlineCause, Option.some.injEq, reduceCtorEq] at cause <;> subst cause <;> rfl
    have up : s.ctl.phase = .boot ∨ s.ctl.phase = .run := by
      cases phase : s.ctl.phase
      case boot => exact .inl rfl
      case run => exact .inr rfl
      all_goals
        simp only [phase] at follows
        simp [follows, deadlineCause] at cause
    exact request_supervised_of_counted hp (linesFollowPhase_of_view (s := s) rfl lines) held counted (.inr up)
  powered := request_powered ..

theorem supplyLossExpires_safe {s : State} (hp : s.powered = true) : Safe s (request .supplyLoss { s with ctl.supplyLoss := none }) := by
  have stopped : Safe s { s with ctl.supplyLoss := none } := by
    refine .of_supervised rfl ?_
    rintro ⟨lines, ⟨hw, hwait, hstab, -, rest⟩, sup⟩
    exact ⟨lines, ⟨hw, hwait, hstab, fun h => absurd h Bool.false_ne_true, rest⟩, sup⟩
  exact stopped.trans (request_safe _ hp)

theorem phase_of_due {s : State} {p : Phase} {timer : Option Nat} {span : Nat}
    (due : (s.ctl.phase == p && hasRun timer span s.clock.now) = true) : s.ctl.phase = p :=
  eq_of_beq (Bool.and_eq_true_iff.mp due).1

theorem overlayEnds_safe (s : State) : Safe s { s with ctl.overlay := none, ctl.ledFrom := s.clock.now } := .of rfl

/-! ## The power-on reset and the brown-out -/

theorem inRange_of_goodSettings {a : Option Image} (h : ∀ i, a = some i → i.settings.inRange = true) {c : Settings}
    (good : goodSettings a = some c) : c.inRange = true := by
  cases a with
  | none => exact absurd good (by simp [goodSettings])
  | some i =>
    simp only [goodSettings] at good
    split at good
    · exact Option.some.inj good ▸ h i rfl
    · exact absurd good (by simp)

theorem areaAtReset_eq_some {s : State} {i : Image} (h : areaAtReset s = some i) : s.store.area = some i := by
  unfold areaAtReset at h
  split at h
  · exact absurd h (by simp)
  · exact h

theorem factory_inRange : Settings.factory.inRange = true := by decide

/-- The store and the settings after a power-on reset (R153). -/
theorem resetSettings_inRange {s : State} (h : SettingsInRange s) :
    ((goodSettings (areaAtReset s)).getD Settings.factory).inRange = true
      ∧ ∀ c, goodSettings (areaAtReset s) = some c → c.inRange = true := by
  have good (c : Settings) (hc : goodSettings (areaAtReset s) = some c) : c.inRange = true :=
    inRange_of_goodSettings (fun i hi => h.2.1 i (areaAtReset_eq_some hi)) hc
  refine ⟨?_, good⟩
  cases hg : goodSettings (areaAtReset s) with
  | none => exact factory_inRange
  | some c => exact good c hg

theorem cold_sound : Sensor.cold.sound := by simp [Sensor.sound, Sensor.cold]

/-- Every block started by a power-on reset, before PREHEAT is entered, whatever stood before it. -/
theorem cold_kept (s : State) {cfg : Settings} {pins : Pins} {rateHigh : Bool} {store : Store} {causes : BitVec 13} {pending : List Instr}
    {pace draw : Nat} (settings : SettingsInRange s → SettingsInRange { State.cold cfg pins rateHigh store causes with pending, pace, draw }) :
    Kept s { State.cold cfg pins rateHigh store causes with pending, pace, draw } where
  released _ _ h := absurd h (by simp [State.cold])
  queues := by simp [QueuesInBounds, State.cold, rankCount, Port.cold]
  escalation _ := by
    refine ⟨Nat.zero_le _, by simp [State.cold], fun u => ?_⟩
    simp only [resetsInWindow, State.cold, List.countP_nil]
    omega
  settings := settings
  sensors _ := ⟨cold_sound, cold_sound, cold_sound, by simp [State.cold], by simp [State.cold], by simp [State.cold]⟩
  power _ := by
    cases h : pins.heatInhLow <;>
      simp [PowerInBudget, heaterSound, State.cold, Allocation.total, Heater.cold, Channel.cold, h]

theorem enterPreheat_stepKept {s t : State} (started : Kept s t) (hp : t.powered = true) (held : SuspendedInRun t) :
    StepKept s (enterPreheat t) where
  toKept := started.trans (enterPreheat_kept t)
  supervised _ := by
    have begun := preheatBegun_supervised held
    rw [enterPreheat_eq]
    split
    · have powered : (preheatBegun t).powered = true :=
        ((congrArg (fun v => v.2.1) (preheatBegun_view t)).trans (enterOff_powered .preheat t)).trans hp
      exact (enterPowerOn_safe powered (preheatBegun_phase t)).supervised begun
    · exact begun

theorem powerOn_stepKept (rateHigh : Bool) (s : State) : StepKept s (powerOn rateHigh s) := by
  refine enterPreheat_stepKept (cold_kept s fun h => ?_) rfl fun h => absurd h (by simp [State.cold])
  obtain ⟨cfg, shadow⟩ := resetSettings_inRange h
  exact ⟨cfg, fun i hi => h.2.1 i (areaAtReset_eq_some hi), shadow, fun _ h => absurd h (by simp [State.cold])⟩

/-- What a brown-out leaves: the lines held, the store cut short, and every block as it stood (R1, R155). -/
theorem supplyLost_eq (s : State) : supplyLost s = { s with
    powered := false
    lines := { pwrEn := false, pcRst := true, moves := (powerOff (assertReset s)).lines.moves }
    store := { s.store with area := areaAtReset s, programming := none, capture := none } } := by
  simp only [supplyLost, powerOff_eq, assertReset_eq, areaAtReset]

theorem supplyLost_stepKept (s : State) : StepKept s (supplyLost s) := by
  rw [supplyLost_eq]
  generalize (powerOff (assertReset s)).lines.moves = moves
  refine ⟨⟨fun _ h => absurd h Bool.false_ne_true, ?_, escalationBounded_of_view rfl, ?_, sensorsSound_of_view rfl, powerInBudget_of_view rfl rfl⟩, ?_⟩
  · rintro - ⟨hd, hb, hu, hn, hk, hf, hq, hrun, -, hhist⟩
    exact ⟨hd, hb, hu, hn, hk, hf, hq, hrun, fun h => absurd h Bool.false_ne_true, hhist⟩
  · rintro ⟨cfg, area, shadow, -⟩
    exact ⟨cfg, fun i hi => area i (areaAtReset_eq_some hi), shadow, fun _ h => absurd h (by simp)⟩
  · rintro ⟨-, timers, sup⟩
    exact ⟨⟨rfl, rfl⟩, timers, sup⟩

/-! ## The samples' and the channels' moments (chapters 2 and 3) -/

theorem sensorFailed_safe (i : SensorId) (s : State) : Safe s (formReadings (updateSensor i (failSensor (sensorOf i s)) s)) :=
  Safe.after (formReadings_safe _) (updateSensor_safe failSensor_sound)

theorem sensorRecovered_safe (i : SensorId) (code : RawCode) (s : State) :
    Safe s (formReadings (updateSensor i (validSensor (convert code (trimOf i s)) (sensorOf i s)) s)) :=
  Safe.after (formReadings_safe _) (updateSensor_safe fun _ => validSensor_sound (convert_inWindow ..) _)

theorem setDegraded_safe (s : State) : Safe s (setDegraded s) := Safe.after (raise_safe ..) (setCooling_safe { s.chan.cooling with degraded := true } s)

theorem coolingDegrades_safe (setMs clearMs : Nat) (s : State) :
    Safe s (setDegraded { s with chan.cooling.setMs := setMs, chan.cooling.clearMs := clearMs }) :=
  (setCooling_safe { s.chan.cooling with setMs := setMs, clearMs := clearMs } s).trans (setDegraded_safe _)

theorem soakCompletes_safe {s : State} (hp : s.powered = true) (g : Gate) : Safe s (completeSoak { s with sens.gate := g }) :=
  (setGate_safe g s).trans (completeSoak_safe hp)

theorem setLimitedRun_safe (n : Nat) (s : State) : Safe s { s with bud.limitedRun := n } := .of rfl

theorem tachTimeout_safe (s : State) : Safe s (syncFan { s with chan.fan.speed := 0, chan.fan.lastPulse := none }) :=
  (setFan_safe (x := { s.chan.fan with speed := 0, lastPulse := none }) rfl rfl).trans (syncFan_safe _)

theorem setHeatInh_safe (b : Bool) (s : State) : Safe s { s with pins.heatInhLow := b } := .of rfl

theorem setInhRise_safe (r : Option Nat) (s : State) : Safe s { s with chan.inhRise := r } := .of rfl

/-! ## The link's, the keypad's, the store's and the supervisor's rows -/

theorem setRdyIn_safe (p : PortId) (asserted : Bool) (s : State) : Safe s (setRdyIn p asserted s) := by cases p <;> exact .of rfl

theorem setJudged_safe (fell : Nat) (s : State) : Safe s { s with link.rxJudged := some fell } := .of rfl

theorem setChordRun_safe (i : Nat) (c : ChordRun) (s : State) : Safe s { s with keys.chords := s.keys.chords.set i c } := .of rfl

theorem setStore_safe {s : State} {x : Store} (area : SettingsInRange s → ∀ i, x.area = some i → i.settings.inRange = true)
    (shadow : SettingsInRange s → ∀ c, x.shadow = some c → c.inRange = true) (capture : x.capture = none) : Safe s { s with store := x } :=
  .of_settings rfl (fun h => ⟨h.1, area h, shadow h, fun c hc => absurd (capture.symm.trans hc) (by simp)⟩)

theorem storeDone_safe {c : Settings} {s : State} (captured : s.store.capture = some c) : Safe s { s with store := Store.done c } :=
  setStore_safe (fun h _ hi => Option.some.inj hi ▸ h.2.2.2 c captured) (fun h _ hd => Option.some.inj hd ▸ h.2.2.2 c captured) rfl

theorem storeFailed_safe (restored : Bool) (s : State) : Safe s { s with store := s.store.failed restored } := by
  unfold Store.failed
  split
  · exact setStore_safe (fun _ _ h => absurd h (by simp)) (fun _ _ h => absurd h (by simp)) rfl
  next old held =>
    split
    · exact setStore_safe (fun h _ hi => Option.some.inj hi ▸ h.2.2.1 old held) (fun h _ hd => Option.some.inj hd ▸ h.2.2.1 old held) rfl
    · exact setStore_safe (fun _ _ h => absurd h (by simp)) (fun _ _ h => absurd h (by simp)) rfl

/-! ## Every row -/

theorem execPowerOnReset_kept (rateHigh : Bool) (s : State) : AnswerKept s (execPowerOnReset rateHigh s) := by
  unfold execPowerOnReset
  exact .next (powerOn_stepKept rateHigh s)

theorem execWarmUpLimitExpiry_kept (s : State) : AnswerKept s (execWarmUpLimitExpiry s) := by
  unfold execWarmUpLimitExpiry
  exact whenOn_kept fun hp => .when (warmUpExpires_safe hp)

theorem execPwrgoodRise_kept (s : State) : AnswerKept s (execPwrgoodRise s) := by
  unfold execPwrgoodRise
  split
  · exact .next (Safe.refl s).stepKept
  · exact .whenOn (setPwrgood_safe true s) fun _ => pwrgoodRises_safe _

theorem execPwrgoodFall_kept (s : State) : AnswerKept s (execPwrgoodFall s) := by
  unfold execPwrgoodFall
  split
  · exact .whenOn (setPwrgood_safe false s) fun _ => pwrgoodFalls_safe _
  · exact .next (Safe.refl s).stepKept

theorem execPwrgoodStabilityComplete_kept (s : State) : AnswerKept s (execPwrgoodStabilityComplete s) := by
  unfold execPwrgoodStabilityComplete
  exact whenOn_kept fun hp => .when fun due => enterBoot_safe hp (pwrEnPhase_of_phase (phase_of_due due) rfl)

theorem execPwrgoodWaitExpiry_kept (s : State) : AnswerKept s (execPwrgoodWaitExpiry s) := by
  unfold execPwrgoodWaitExpiry
  exact whenOn_kept fun hp => .when fun due => waitExpires_safe hp (phase_of_due due)

theorem execSupplyLossFilterExpiry_kept (s : State) : AnswerKept s (execSupplyLossFilterExpiry s) := by
  unfold execSupplyLossFilterExpiry
  exact whenOn_kept fun hp => .when fun _ => supplyLossExpires_safe hp

theorem execResetPulseEnd_kept (s : State) : AnswerKept s (execResetPulseEnd s) := by
  unfold execResetPulseEnd
  exact whenOn_kept fun hp => .when fun due => enterBoot_safe hp (pwrEnPhase_of_phase (phase_of_due due) rfl)

theorem execOffTimeEnd_kept (s : State) : AnswerKept s (execOffTimeEnd s) := by
  unfold execOffTimeEnd
  exact whenOn_kept fun hp => .when fun _ => enterPreheat_safe hp

theorem execOverlayEnd_kept (s : State) : AnswerKept s (execOverlayEnd s) := by
  unfold execOverlayEnd
  exact whenOn_kept fun _ => .when fun _ => overlayEnds_safe s

theorem execSensorSample_kept (a : RawCode) (d : RawCode) (b : RawCode) (s : State) : AnswerKept s (execSensorSample a d b s) := by
  unfold execSensorSample
  exact whenOn_kept fun hp => (sample_safe a d b hp).settled

theorem execSensorFailed_kept (sensor : SensorId) (s : State) : AnswerKept s (execSensorFailed sensor s) := by
  unfold execSensorFailed
  exact whenOn_kept fun _ => .when fun _ => (sensorFailed_safe sensor s).settled

theorem execSensorRecovered_kept (sensor : SensorId) (code : RawCode) (s : State) : AnswerKept s (execSensorRecovered sensor code s) := by
  unfold execSensorRecovered
  exact whenOn_kept fun _ => .when fun _ => sensorRecovered_safe sensor code s

theorem execSoakComplete_kept (s : State) : AnswerKept s (execSoakComplete s) := by
  unfold execSoakComplete
  exact whenOn_kept fun hp => .when fun _ => (soakCompletes_safe hp _).settled

theorem execOverheatDwellExpiry_kept (s : State) : AnswerKept s (execOverheatDwellExpiry s) := by
  unfold execOverheatDwellExpiry
  exact whenOn_kept fun hp => .when fun _ => (overheat_safe hp).settled

theorem execCoolingDegradedSet_kept (s : State) : AnswerKept s (execCoolingDegradedSet s) := by
  unfold execCoolingDegradedSet
  exact whenOn_kept fun _ => .when fun _ => (coolingDegrades_safe 120000 0 s).settled

theorem execCoolingDegradedClear_kept (s : State) : AnswerKept s (execCoolingDegradedClear s) := by
  unfold execCoolingDegradedClear
  exact whenOn_kept fun _ => .when fun _ => setCooling_safe ..

theorem execBudgetTimerExpiry_kept (s : State) : AnswerKept s (execBudgetTimerExpiry s) := by
  unfold execBudgetTimerExpiry
  exact whenOn_kept fun _ => ((beginPeriod_safe s).trans (allocateNow_safe _)).settled

theorem execBudgetLimited_kept (s : State) : AnswerKept s (execBudgetLimited s) := by
  unfold execBudgetLimited
  exact whenOn_kept fun _ => .when fun _ => ((setLimitedRun_safe 60 s).trans (raise_safe .budgetLimited _)).settled

theorem execHeaterOnTimeEnd_kept (heater : HeaterId) (s : State) : AnswerKept s (execHeaterOnTimeEnd heater s) := by
  unfold execHeaterOnTimeEnd
  exact whenOn_kept fun _ => .when fun _ => syncHeater_safe heater s

theorem execComparatorChange_kept (channel : ChannelId) (cmp : Comparator) (reports : Bool) (s : State) : AnswerKept s (execComparatorChange channel cmp reports s) := by
  unfold execComparatorChange
  exact .whenOn (setComparator_safe channel cmp reports s) fun _ => syncChannel_safe channel _

theorem execOvercurrentTrip_kept (channel : ChannelId) (s : State) : AnswerKept s (execOvercurrentTrip channel s) := by
  unfold execOvercurrentTrip
  exact whenOn_kept fun _ => .when fun _ => (tripChannel_safe channel s).settled

theorem execTripAgeOut_kept (channel : ChannelId) (s : State) : AnswerKept s (execTripAgeOut channel s) := by
  unfold execTripAgeOut
  exact whenOn_kept fun _ => .when fun _ => ageTrips_safe channel s

theorem execOpenLoadDetected_kept (heater : HeaterId) (s : State) : AnswerKept s (execOpenLoadDetected heater s) := by
  unfold execOpenLoadDetected
  exact whenOn_kept fun _ => .when fun _ => (flagCondition_safe ..).settled

theorem execOpenLoadCleared_kept (heater : HeaterId) (s : State) : AnswerKept s (execOpenLoadCleared heater s) := by
  unfold execOpenLoadCleared
  exact whenOn_kept fun _ => .when fun _ => clearHeaterCondition_safe heater _ s

theorem execShortToSupplyDetected_kept (heater : HeaterId) (s : State) : AnswerKept s (execShortToSupplyDetected heater s) := by
  unfold execShortToSupplyDetected
  exact whenOn_kept fun _ => .when fun _ => (flagCondition_safe ..).settled

theorem execShortToSupplyCleared_kept (heater : HeaterId) (s : State) : AnswerKept s (execShortToSupplyCleared heater s) := by
  unfold execShortToSupplyCleared
  exact whenOn_kept fun _ => .when fun _ => clearHeaterCondition_safe heater _ s

theorem execTachPulse_kept (s : State) : AnswerKept s (execTachPulse s) := by
  unfold execTachPulse
  exact whenOn_kept fun _ => tachPulses_safe s

theorem execTachTimeout_kept (s : State) : AnswerKept s (execTachTimeout s) := by
  unfold execTachTimeout
  exact whenOn_kept fun _ => .when fun _ => tachTimeout_safe s

theorem execStallDetected_kept (s : State) : AnswerKept s (execStallDetected s) := by
  unfold execStallDetected
  exact whenOn_kept fun _ => .when fun _ => (stallFound_safe s).settled

theorem execHeatInhAssert_kept (s : State) : AnswerKept s (execHeatInhAssert s) := by
  unfold execHeatInhAssert
  split
  · exact .next (Safe.refl s).stepKept
  · exact .whenOn (setHeatInh_safe true s) fun _ => (inhibitHeaters_safe _).settled

theorem execHeatInhRise_kept (s : State) : AnswerKept s (execHeatInhRise s) := by
  unfold execHeatInhRise
  split
  · exact .whenOn (setHeatInh_safe false s) fun _ => setInhRise_safe _ _
  · exact .next (Safe.refl s).stepKept

theorem execHeatInhRelease_kept (s : State) : AnswerKept s (execHeatInhRelease s) := by
  unfold execHeatInhRelease
  exact whenOn_kept fun _ => .when fun _ => (releaseHeaters_safe s).settled

theorem execFrameReceived_kept (port : PortId) (frame : Frame) (s : State) : AnswerKept s (execFrameReceived port frame s) := by
  unfold execFrameReceived
  exact whenOn_kept fun hp => receive_safe port _ hp

theorem execLengthAbort_kept (port : PortId) (length : Byte) (s : State) : AnswerKept s (execLengthAbort port length s) := by
  unfold execLengthAbort
  exact whenOn_kept fun hp => .when fun _ => receive_safe port _ hp

theorem execFrameGapTimeout_kept (port : PortId) (s : State) : AnswerKept s (execFrameGapTimeout port s) := by
  unfold execFrameGapTimeout
  exact whenOn_kept fun _ => .when fun _ => (countOn_safe port Counters.incTimeout s).trans (emptyAssembly_safe port _)

theorem execRxBreak_kept (low : LowPeriod) (s : State) : AnswerKept s (execRxBreak low s) := by
  unfold execRxBreak
  refine whenOn_kept fun _ => ?_
  cases low.port
  · refine .ite (fun _ => .refl s) fun released => .when fun _ => ?_
    exact ((setJudged_safe low.fell s).trans (linkReset_safe _)).settled
  · exact .refl s

theorem execTransmitStart_kept (port : PortId) (s : State) : AnswerKept s (execTransmitStart port s) := by
  unfold execTransmitStart
  exact whenOn_kept fun _ => startFrame_safe port s

theorem execTransmitComplete_kept (port : PortId) (s : State) : AnswerKept s (execTransmitComplete port s) := by
  unfold execTransmitComplete
  exact whenOn_kept fun _ => .when fun _ => Safe.after (startFrame_safe ..) (setPort_safe port rfl)

theorem execRdyInChange_kept (port : PortId) (asserted : Bool) (s : State) : AnswerKept s (execRdyInChange port asserted s) := by
  unfold execRdyInChange
  exact .whenOn (setRdyIn_safe port asserted s) fun _ => rdyChanges_safe port _

theorem execPortStalled_kept (port : PortId) (s : State) : AnswerKept s (execPortStalled port s) := by
  unfold execPortStalled
  exact whenOn_kept fun _ => .when fun _ => ((stallPort_safe port s).trans (raise_safe ..)).settled

theorem execDeadlineExpiry_kept (s : State) : AnswerKept s (execDeadlineExpiry s) := by
  unfold execDeadlineExpiry
  refine whenOn_kept fun hp => .when fun _ => ?_
  split
  · exact .refl s
  next cause => exact deadlineExpires_safe hp cause

theorem execSuspensionExpiry_kept (s : State) : AnswerKept s (execSuspensionExpiry s) := by
  unfold execSuspensionExpiry
  refine whenOn_kept fun _ => .when fun due => ?_
  have suspended : s.sup.deadline = .suspended := eq_of_beq (Bool.and_eq_true_iff.mp due).1
  split
  · exact .refl s
  · exact ((endSuspension_safe _ suspended).trans (raise_safe ..)).settled

theorem execArmExpiry_kept (s : State) : AnswerKept s (execArmExpiry s) := by
  unfold execArmExpiry
  exact whenOn_kept fun _ => .when fun _ => clearArm_safe s

theorem execScanPass_kept (closed : Matrix) (s : State) : AnswerKept s (execScanPass closed s) := by
  unfold execScanPass
  exact whenOn_kept fun hp => (scan_safe closed hp).settled

theorem execPress_kept (position : Nat) (s : State) : AnswerKept s (execPress position s) := by
  unfold execPress
  exact whenOn_kept fun _ => moveKey_safe ..

theorem execRelease_kept (position : Nat) (s : State) : AnswerKept s (execRelease position s) := by
  unfold execRelease
  exact whenOn_kept fun _ => moveKey_safe ..

theorem execStuck_kept (position : Nat) (s : State) : AnswerKept s (execStuck position s) := by
  unfold execStuck
  exact whenOn_kept fun _ => moveKey_safe ..

theorem execStuckClear_kept (position : Nat) (s : State) : AnswerKept s (execStuckClear position s) := by
  unfold execStuckClear
  exact whenOn_kept fun _ => moveKey_safe ..

theorem execKeyRepeat_kept (position : Nat) (s : State) : AnswerKept s (execKeyRepeat position s) := by
  unfold execKeyRepeat
  exact whenOn_kept fun _ => moveKey_safe ..

theorem execChordFire_kept (chord : Nat) (s : State) : AnswerKept s (execChordFire chord s) := by
  unfold execChordFire
  refine whenOn_kept fun hp => ?_
  split
  · exact .refl s
  · exact .when fun _ => (Safe.afterOn hp (handFirings_safe _) (Safe.after (offerChord_safe ..) (setChordRun_safe ..))).settled

theorem execKeyDelivery_kept (s : State) : AnswerKept s (execKeyDelivery s) := by
  unfold execKeyDelivery
  exact whenOn_kept fun _ => deliverKey_safe s

theorem execNoticeSend_kept (s : State) : AnswerKept s (execNoticeSend s) := by
  unfold execNoticeSend
  exact whenOn_kept fun _ => sendNotice_safe s

theorem execProgrammingEnd_kept (readBack : Bool) (restored : Bool) (s : State) : AnswerKept s (execProgrammingEnd readBack restored s) := by
  unfold execProgrammingEnd
  refine whenOn_kept fun _ => ?_
  split
  next captured =>
    exact .ite (fun _ => ((storeDone_safe captured).trans (raise_safe ..)).settled) fun _ =>
      ((storeFailed_safe restored s).trans (raise_safe ..)).settled
  · exact .refl s

theorem execGetStatus_kept (p : List Byte) (s : State) : AnswerKept s (execGetStatus p s) := by
  unfold execGetStatus
  exact whenOn_kept (commandArrives_safe fun _ => cmdGetStatus_safe p)

theorem execGetCause_kept (p : List Byte) (s : State) : AnswerKept s (execGetCause p s) := by
  unfold execGetCause
  exact whenOn_kept (commandArrives_safe fun _ => cmdGetCause_safe p)

theorem execSetCauseEnables_kept (p : List Byte) (s : State) : AnswerKept s (execSetCauseEnables p s) := by
  unfold execSetCauseEnables
  exact whenOn_kept (commandArrives_safe fun _ => cmdSetCauseEnables_safe p)

theorem execSetTime_kept (p : List Byte) (s : State) : AnswerKept s (execSetTime p s) := by
  unfold execSetTime
  exact whenOn_kept (commandArrives_safe fun _ => cmdSetTime_safe p)

theorem execGetHistory_kept (p : List Byte) (s : State) : AnswerKept s (execGetHistory p s) := by
  unfold execGetHistory
  exact whenOn_kept (commandArrives_safe fun _ => cmdGetHistory_safe p)

theorem execPulse_kept (p : List Byte) (s : State) : AnswerKept s (execPulse p s) := by
  unfold execPulse
  exact whenOn_kept (commandArrives_safe fun _ => cmdPulse_safe p)

theorem execGetLinkCounters_kept (p : List Byte) (s : State) : AnswerKept s (execGetLinkCounters p s) := by
  unfold execGetLinkCounters
  exact whenOn_kept (commandArrives_safe fun _ => cmdGetLinkCounters_safe p)

theorem execClearCounters_kept (p : List Byte) (s : State) : AnswerKept s (execClearCounters p s) := by
  unfold execClearCounters
  exact whenOn_kept (commandArrives_safe fun _ => cmdClearCounters_safe p)

theorem execSetPassEntry_kept (p : List Byte) (s : State) : AnswerKept s (execSetPassEntry p s) := by
  unfold execSetPassEntry
  exact whenOn_kept (commandArrives_safe fun _ => cmdSetPassEntry_safe p)

theorem execGetPassEntry_kept (p : List Byte) (s : State) : AnswerKept s (execGetPassEntry p s) := by
  unfold execGetPassEntry
  exact whenOn_kept (commandArrives_safe fun _ => cmdGetPassEntry_safe p)

theorem execSetAnswer_kept (p : List Byte) (s : State) : AnswerKept s (execSetAnswer p s) := by
  unfold execSetAnswer
  exact whenOn_kept (commandArrives_safe fun _ => cmdSetAnswer_safe p)

theorem execGetAnswer_kept (p : List Byte) (s : State) : AnswerKept s (execGetAnswer p s) := by
  unfold execGetAnswer
  exact whenOn_kept (commandArrives_safe fun _ => cmdGetAnswer_safe p)

theorem execSetDefaultActions_kept (p : List Byte) (s : State) : AnswerKept s (execSetDefaultActions p s) := by
  unfold execSetDefaultActions
  exact whenOn_kept (commandArrives_safe fun _ => cmdSetDefaultActions_safe p)

theorem execSetThermal_kept (p : List Byte) (s : State) : AnswerKept s (execSetThermal p s) := by
  unfold execSetThermal
  exact whenOn_kept (commandArrives_safe fun _ => cmdSetThermal_safe p)

theorem execGetThermal_kept (p : List Byte) (s : State) : AnswerKept s (execGetThermal p s) := by
  unfold execGetThermal
  exact whenOn_kept (commandArrives_safe fun _ => cmdGetThermal_safe p)

theorem execSetBudget_kept (p : List Byte) (s : State) : AnswerKept s (execSetBudget p s) := by
  unfold execSetBudget
  exact whenOn_kept (commandArrives_safe fun _ => cmdSetBudget_safe p)

theorem execGetChannelDiag_kept (p : List Byte) (s : State) : AnswerKept s (execGetChannelDiag p s) := by
  unfold execGetChannelDiag
  exact whenOn_kept (commandArrives_safe fun _ => cmdGetChannelDiag_safe p)

theorem execClearChannelLock_kept (p : List Byte) (s : State) : AnswerKept s (execClearChannelLock p s) := by
  unfold execClearChannelLock
  exact whenOn_kept (commandArrives_safe fun _ => cmdClearChannelLock_safe p)

theorem execSetKeypad_kept (p : List Byte) (s : State) : AnswerKept s (execSetKeypad p s) := by
  unfold execSetKeypad
  exact whenOn_kept (commandArrives_safe fun _ => cmdSetKeypad_safe p)

theorem execSetWatchdog_kept (p : List Byte) (s : State) : AnswerKept s (execSetWatchdog p s) := by
  unfold execSetWatchdog
  exact whenOn_kept (commandArrives_safe fun _ => cmdSetWatchdog_safe p)

theorem execSuspendWatchdog_kept (p : List Byte) (s : State) : AnswerKept s (execSuspendWatchdog p s) := by
  unfold execSuspendWatchdog
  exact whenOn_kept (commandArrives_safe fun _ => cmdSuspendWatchdog_safe p)

theorem execResumeWatchdog_kept (p : List Byte) (s : State) : AnswerKept s (execResumeWatchdog p s) := by
  unfold execResumeWatchdog
  exact whenOn_kept (commandArrives_safe fun _ => cmdResumeWatchdog_safe p)

theorem execArmRestart_kept (p : List Byte) (s : State) : AnswerKept s (execArmRestart p s) := by
  unfold execArmRestart
  exact whenOn_kept (commandArrives_safe fun _ => cmdArmRestart_safe p)

theorem execRestart_kept (p : List Byte) (s : State) : AnswerKept s (execRestart p s) := by
  unfold execRestart
  exact whenOn_kept (commandArrives_safe fun armed => cmdRestart_safe p armed)

theorem execSetKeymap_kept (p : List Byte) (s : State) : AnswerKept s (execSetKeymap p s) := by
  unfold execSetKeymap
  exact whenOn_kept (commandArrives_safe fun _ => cmdSetKeymap_safe p)

theorem execSetChord_kept (p : List Byte) (s : State) : AnswerKept s (execSetChord p s) := by
  unfold execSetChord
  exact whenOn_kept (commandArrives_safe fun _ => cmdSetChord_safe p)

theorem execStoreSettings_kept (p : List Byte) (s : State) : AnswerKept s (execStoreSettings p s) := by
  unfold execStoreSettings
  exact whenOn_kept (commandArrives_safe fun _ => cmdStoreSettings_safe p)

theorem execUnknownCommand_kept (cls : Byte) (p : List Byte) (s : State) : AnswerKept s (execUnknownCommand cls p s) := by
  unfold execUnknownCommand
  exact whenOn_kept (goodFrame_safe .c _)

theorem execByteReceived_kept (port : PortId) (byte : Byte) (stopHigh : Bool) (s : State) : AnswerKept s (execByteReceived port byte stopHigh s) := by
  unfold execByteReceived
  exact whenOn_kept fun hp => .when fun _ => receive_safe port _ hp

theorem execBrownOut_kept (s : State) : AnswerKept s (execBrownOut s) := by
  unfold execBrownOut
  refine .next ?_
  split
  · exact supplyLost_stepKept s
  · exact (Safe.refl s).stepKept

theorem exec_kept (i : Instr) (s : State) : AnswerKept s (exec i s) := by
  cases i
  case powerOnReset rateHigh => exact execPowerOnReset_kept rateHigh s
  case warmUpLimitExpiry => exact execWarmUpLimitExpiry_kept s
  case pwrgoodRise => exact execPwrgoodRise_kept s
  case pwrgoodFall => exact execPwrgoodFall_kept s
  case pwrgoodStabilityComplete => exact execPwrgoodStabilityComplete_kept s
  case pwrgoodWaitExpiry => exact execPwrgoodWaitExpiry_kept s
  case supplyLossFilterExpiry => exact execSupplyLossFilterExpiry_kept s
  case resetPulseEnd => exact execResetPulseEnd_kept s
  case offTimeEnd => exact execOffTimeEnd_kept s
  case overlayEnd => exact execOverlayEnd_kept s
  case sensorSample a d b => exact execSensorSample_kept a d b s
  case sensorFailed sensor => exact execSensorFailed_kept sensor s
  case sensorRecovered sensor code => exact execSensorRecovered_kept sensor code s
  case soakComplete => exact execSoakComplete_kept s
  case overheatDwellExpiry => exact execOverheatDwellExpiry_kept s
  case coolingDegradedSet => exact execCoolingDegradedSet_kept s
  case coolingDegradedClear => exact execCoolingDegradedClear_kept s
  case budgetTimerExpiry => exact execBudgetTimerExpiry_kept s
  case budgetLimited => exact execBudgetLimited_kept s
  case heaterOnTimeEnd heater => exact execHeaterOnTimeEnd_kept heater s
  case comparatorChange channel cmp reports => exact execComparatorChange_kept channel cmp reports s
  case overcurrentTrip channel => exact execOvercurrentTrip_kept channel s
  case tripAgeOut channel => exact execTripAgeOut_kept channel s
  case openLoadDetected heater => exact execOpenLoadDetected_kept heater s
  case openLoadCleared heater => exact execOpenLoadCleared_kept heater s
  case shortToSupplyDetected heater => exact execShortToSupplyDetected_kept heater s
  case shortToSupplyCleared heater => exact execShortToSupplyCleared_kept heater s
  case tachPulse => exact execTachPulse_kept s
  case tachTimeout => exact execTachTimeout_kept s
  case stallDetected => exact execStallDetected_kept s
  case heatInhAssert => exact execHeatInhAssert_kept s
  case heatInhRise => exact execHeatInhRise_kept s
  case heatInhRelease => exact execHeatInhRelease_kept s
  case frameReceived port frame => exact execFrameReceived_kept port frame s
  case lengthAbort port length => exact execLengthAbort_kept port length s
  case frameGapTimeout port => exact execFrameGapTimeout_kept port s
  case rxBreak low => exact execRxBreak_kept low s
  case transmitStart port => exact execTransmitStart_kept port s
  case transmitComplete port => exact execTransmitComplete_kept port s
  case rdyInChange port asserted => exact execRdyInChange_kept port asserted s
  case portStalled port => exact execPortStalled_kept port s
  case deadlineExpiry => exact execDeadlineExpiry_kept s
  case suspensionExpiry => exact execSuspensionExpiry_kept s
  case armExpiry => exact execArmExpiry_kept s
  case scanPass closed => exact execScanPass_kept closed s
  case press position => exact execPress_kept position s
  case release position => exact execRelease_kept position s
  case stuck position => exact execStuck_kept position s
  case stuckClear position => exact execStuckClear_kept position s
  case keyRepeat position => exact execKeyRepeat_kept position s
  case chordFire chord => exact execChordFire_kept chord s
  case keyDelivery => exact execKeyDelivery_kept s
  case noticeSend => exact execNoticeSend_kept s
  case programmingEnd readBack restored => exact execProgrammingEnd_kept readBack restored s
  case getStatus p => exact execGetStatus_kept p s
  case getCause p => exact execGetCause_kept p s
  case setCauseEnables p => exact execSetCauseEnables_kept p s
  case setTime p => exact execSetTime_kept p s
  case getHistory p => exact execGetHistory_kept p s
  case pulse p => exact execPulse_kept p s
  case getLinkCounters p => exact execGetLinkCounters_kept p s
  case clearCounters p => exact execClearCounters_kept p s
  case setPassEntry p => exact execSetPassEntry_kept p s
  case getPassEntry p => exact execGetPassEntry_kept p s
  case setAnswer p => exact execSetAnswer_kept p s
  case getAnswer p => exact execGetAnswer_kept p s
  case setDefaultActions p => exact execSetDefaultActions_kept p s
  case setThermal p => exact execSetThermal_kept p s
  case getThermal p => exact execGetThermal_kept p s
  case setBudget p => exact execSetBudget_kept p s
  case getChannelDiag p => exact execGetChannelDiag_kept p s
  case clearChannelLock p => exact execClearChannelLock_kept p s
  case setKeypad p => exact execSetKeypad_kept p s
  case setWatchdog p => exact execSetWatchdog_kept p s
  case suspendWatchdog p => exact execSuspendWatchdog_kept p s
  case resumeWatchdog p => exact execResumeWatchdog_kept p s
  case armRestart p => exact execArmRestart_kept p s
  case restart p => exact execRestart_kept p s
  case setKeymap p => exact execSetKeymap_kept p s
  case setChord p => exact execSetChord_kept p s
  case storeSettings p => exact execStoreSettings_kept p s
  case unknownCommand cls p => exact execUnknownCommand_kept cls p s
  case byteReceived port byte stopHigh => exact execByteReceived_kept port byte stopHigh s
  case brownOut => exact execBrownOut_kept s

/-! ## An idle step, and a step -/

theorem elapse_safe (d : Nat) (s : State) : Safe s (elapse d s) := by
  refine .of_escalation rfl ?_
  rintro ⟨hup, stamped, bounded⟩
  exact ⟨Nat.min_le_left .., fun r hr => (stamped r hr).trans (le_min hup (Nat.le_add_right ..)), bounded⟩

theorem queueRows_safe (l : List Instr) (d : Nat) (s : State) : Safe s { s with pending := l, draw := d } := .of rfl

theorem takeRow_safe (l : List Instr) (s : State) : Safe s { s with pending := l } := .of rfl

theorem idle_safe (s : State) : Safe s (idle s) := by
  unfold idle
  refine .when fun hp => .ite (fun _ => (takeFirings_safe _ hp).settled) fun _ => ?_
  split
  · exact elapse_safe ..
  · exact queueRows_safe ..

theorem step_kept (s : State) : AnswerKept s (step s) := by
  unfold step
  split
  · exact .next (idle_safe s).stepKept
  next c rest _ => exact fun t h => (takeRow_safe rest s).stepKept.trans (exec_kept c _ t h)

/-! ## The invariants, and the reset state -/

/-- Settles O54: every row is shown to keep lines, timers and supervision together, a phase entry at its end. -/
theorem linesTimersAndSupervisionFollowThePhase : Obligations.LinesTimersAndSupervisionFollowThePhase :=
  fun s t h stepped => (step_kept s t stepped).supervised h

/-- Settles O55: the queues rest on the lines where RUN needs PC_RST# released. -/
theorem queuesStayInBounds : Obligations.QueuesStayInBounds :=
  fun s t lines h stepped => (step_kept s t stepped).queues lines.runReleased h

/-- Settles O56: a RESET is chosen only where the window holds fewer than K, and the floor moves with the settings that bound it. -/
theorem escalationStaysBounded : Obligations.EscalationStaysBounded :=
  fun s t h stepped => (step_kept s t stepped).escalation h

/-- Settles O57: each set command clamps or checks what it writes, and the store holds only what was in force. -/
theorem settingsStayInRange : Obligations.SettingsStayInRange :=
  fun s t h stepped => (step_kept s t stepped).settings h

/-- Settles O58: a sample takes each record to a sound one, and a filter step stays between its two readings. -/
theorem sensorsStaySound : Obligations.SensorsStaySound :=
  fun s t h stepped => (step_kept s t stepped).sensors h

/-- Settles O59: every allocation charges within the total and grants within the demands. -/
theorem powerStaysInBudget : Obligations.PowerStaysInBudget :=
  fun s t _ h stepped => (step_kept s t stepped).power h

end Sys2Proof.Machine
end

section
/-! The state right after reset, and the step on a queue that is not empty. -/

namespace Sys2Proof.Machine

theorem reset_escalationBounded : EscalationBounded State.reset :=
  ⟨Nat.zero_le _, fun _ h => absurd h List.not_mem_nil, fun _ => by simp [resetsInWindow, State.reset, State.cold]⟩

theorem reset_settingsInRange : SettingsInRange State.reset :=
  ⟨factory_inRange, fun _ h => absurd h (by simp [State.reset, State.cold]), fun _ h => absurd h (by simp [State.reset, State.cold]),
    fun _ h => absurd h (by simp [State.reset, State.cold])⟩

theorem reset_sensorsSound : SensorsSound State.reset :=
  ⟨cold_sound, cold_sound, cold_sound, fun _ h => absurd h (by simp [State.reset, State.cold]),
    fun _ h => absurd h (by simp [State.reset, State.cold]), fun _ h => absurd h (by simp [State.reset, State.cold])⟩

theorem reset_powerInBudget : PowerInBudget State.reset := by
  simp [PowerInBudget, heaterSound, Allocation.total, State.reset, State.cold, Heater.cold, Channel.cold, Pins.reset, Settings.factory]

/-- Settles O60, invariant by invariant on the one state. -/
theorem invariantsHoldAtReset : Obligations.InvariantsHoldAtReset := by
  refine ⟨⟨rfl, rfl⟩, ?_, ?_, ?_, reset_escalationBounded, reset_settingsInRange, reset_sensorsSound, reset_powerInBudget⟩
  · simp [TimersFollowPhase, State.reset, State.cold]
  · simp [SupervisorFollowsPhase, State.reset, State.cold]
  · simp [QueuesInBounds, rankCount, State.reset, State.cold, Port.cold]

/-- Settles O1: `step` is that by definition. -/
theorem stepTakesTheFrontCommand : Obligations.StepTakesTheFrontCommand := fun _ _ _ => rfl

end Sys2Proof.Machine
end

section
/-! The time bases, the rows of the timers as the statements name their conditions, and rows that are not due. -/

namespace Sys2Proof.Machine

/-! ## The time bases (R3 to R5) -/

/-- A count that saturates, advanced twice. -/
theorem min_add_min_add (m u a b : Nat) : min m (min m (u + a) + b) = min m (u + (a + b)) := by omega

/-- The whole units in one stretch and in the next are those in both. -/
theorem div_sub_div_add {n m k : Nat} (d : Nat) (h : n ≤ m) (h' : m ≤ k) : (m / d - n / d) + (k / d - m / d) = k / d - n / d := by
  have := Nat.div_le_div_right (c := d) h
  have := Nat.div_le_div_right (c := d) h'
  omega

theorem elapse_add (d e : Nat) (s : State) : elapse e (elapse d s) = elapse (d + e) s := by
  have units (div : Nat) := div_sub_div_add div (Nat.le_add_right s.clock.now d) (Nat.le_add_right (s.clock.now + d) e)
  have phase := div_sub_div_add 1000000 (Nat.sub_le_sub_right (Nat.le_add_right s.clock.now d) s.clock.phaseAt)
    (Nat.sub_le_sub_right (Nat.le_add_right (s.clock.now + d) e) s.clock.phaseAt)
  simp only [elapse, ← Nat.add_assoc, min_add_min_add, units, phase, BitVec.add_assoc, ← BitVec.ofNat_add]

/-- A stretch of whole units adds as many of them. -/
theorem add_mul_div_sub_div {unit : Nat} (pos : 0 < unit) (n k : Nat) : (n + k * unit) / unit - n / unit = k := by
  rw [Nat.add_mul_div_right _ _ pos, Nat.add_sub_cancel_left]

theorem elapse_seconds (k : Nat) (s : State) (h : s.clock.phaseAt ≤ s.clock.now) :
    (elapse (k * 1000000) s).clock = { s.clock with
      now := s.clock.now + k * 1000000
      uptime := min 4294967295 (s.clock.uptime + k)
      cabinet := s.clock.cabinet + BitVec.ofNat 32 (1000 * k)
      timeInPhase := min 4294967295 (s.clock.timeInPhase + k) } := by
  have seconds := add_mul_div_sub_div (unit := 1000000) (by omega) s.clock.now k
  have inPhase := add_mul_div_sub_div (unit := 1000000) (by omega) (s.clock.now - s.clock.phaseAt) k
  have millis : (s.clock.now + k * 1000000) / 1000 - s.clock.now / 1000 = 1000 * k := by
    rw [show k * 1000000 = 1000 * k * 1000 by omega]
    exact add_mul_div_sub_div (by omega) ..
  have since : s.clock.now + k * 1000000 - s.clock.phaseAt = s.clock.now - s.clock.phaseAt + k * 1000000 := by omega
  simp only [elapse, since, seconds, inPhase, millis, max32]

/-- Settles O3: whole units telescope over a stretch and over whole seconds. -/
theorem timeBasesRunOn : Obligations.TimeBasesRunOn := by
  refine ⟨elapse_add, fun k s h => ?_⟩
  have clock := elapse_seconds k s h
  have frame : elapse (k * 1000000) s = { s with clock := (elapse (k * 1000000) s).clock } := rfl
  simp only [clock] at frame ⊢
  exact ⟨frame, trivial, trivial, trivial, trivial⟩

/-! ## When a row is due -/

theorem whenOn_of_powered {s : State} (hp : s.powered = true) (f : State → State) : whenOn s f = .next (f s) := by
  simp only [whenOn, hp, if_true]

theorem whenOn_of_unpowered {s : State} (hp : s.powered = false) (f : State → State) : whenOn s f = .next s := by
  simp only [whenOn, hp, Bool.false_eq_true, if_false]

/-- A row whose test holds within the operating range acts. -/
theorem whenOn_test_pos {test : State → Bool} {f : State → State} {s : State} (hp : s.powered = true) (h : test s = true) :
    whenOn s (fun s => if test s then f s else s) = .next (f s) := by
  simp only [whenOn, hp, h, if_true]

/-- A row whose test fails has no effect. -/
theorem whenOn_test_neg {test : State → Bool} {f : State → State} {s : State} (h : ¬ test s = true) :
    whenOn s (fun s => if test s then f s else s) = .next s := by
  simp only [whenOn, if_neg h, ite_self]

/-- The same for a condition that is not a test of its own. -/
theorem whenOn_ite_pos {P : State → Prop} [DecidablePred P] {f : State → State} {s : State} (hp : s.powered = true) (h : P s) :
    whenOn s (fun s => if P s then f s else s) = .next (f s) := by
  simp only [whenOn, hp, h, if_true]

theorem whenOn_ite_neg {P : State → Prop} [DecidablePred P] {f : State → State} {s : State} (h : ¬ P s) :
    whenOn s (fun s => if P s then f s else s) = .next s := by
  simp only [whenOn, h, if_false, ite_self]

theorem hasRun_iff (timer : Option Nat) (span : Nat) (s : State) : hasRun timer span s.clock.now = true ↔ HasRun timer span s := by
  cases timer <;> simp [hasRun, HasRun]

/-- A timer of one phase, with its span as the manual gives it. -/
theorem phaseTimerDue_iff (p : Phase) (timer : Option Nat) (span : Nat) (s : State) :
    (s.ctl.phase == p && hasRun timer span s.clock.now) = true ↔ s.ctl.phase = p ∧ HasRun timer span s := by
  rw [Bool.and_eq_true, beq_iff_eq, hasRun_iff]

theorem stabilityDue_iff (s : State) : stabilityDue s = true ↔ s.ctl.phase = .powerOn ∧ HasRun s.ctl.stability 100000 s :=
  phaseTimerDue_iff ..

theorem waitDue_iff (s : State) : waitDue s = true ↔ s.ctl.phase = .powerOn ∧ HasRun s.ctl.wait 2000000 s :=
  phaseTimerDue_iff ..

theorem resetPulseDue_iff (s : State) : resetPulseDue s = true ↔ s.ctl.phase = .restart ∧ HasRun s.ctl.resetPulse 200000 s :=
  phaseTimerDue_iff ..

theorem offTimeDue_iff (s : State) : offTimeDue s = true ↔ s.ctl.phase = .powerCycle ∧ HasRun s.ctl.offTime 10000000 s :=
  phaseTimerDue_iff ..

theorem watchesSupply_iff (p : Phase) : watchesSupply p = true ↔ p ∈ [Phase.boot, .run, .restart] := by cases p <;> decide

theorem supplyLossDue_iff (s : State) :
    supplyLossDue s = true ↔ s.ctl.phase ∈ [Phase.boot, .run, .restart] ∧ HasRun s.ctl.supplyLoss 50000 s := by
  rw [supplyLossDue, Bool.and_eq_true, watchesSupply_iff, hasRun_iff]
  rfl

theorem warmUpDue_iff (s : State) : warmUpDue s = true ↔ s.ctl.phase = .preheat ∧ ∃ e, s.ctl.warmUp = .running e ∧ e ≤ s.clock.now := by
  unfold warmUpDue
  split <;> simp [*]

theorem releaseDue_iff (s : State) : releaseDue s = true ↔ s.chan.inhibit = true ∧ HasRun s.chan.inhRise 100000 s := by
  rw [releaseDue, Bool.and_eq_true, hasRun_iff]
  rfl

theorem tachDue_iff (s : State) : tachDue s = true ↔ HasRun s.chan.fan.lastPulse 1000000 s := hasRun_iff ..

theorem overlayDue_iff (s : State) : overlayDue s = true ↔ s.ctl.overlay ≠ none ∧ s.ctl.overlayFrom + 1000000 ≤ s.clock.now := by
  simp [overlayDue, Option.isSome_iff_ne_none, sec]

/-- The overcurrent filter time of R47, as its statements write it: shorter for a heater whose reading is 0 °C or above, and for the fan. -/
theorem filterTime_eq (c : ChannelId) (s : State) :
    filterTime c s =
      if c = .h0 then (if s.sens.effBoard.any (fun T => 0 ≤ T) then 2000 else 100000)
      else if c = .h1 then (if s.sens.effDisplay.any (fun T => 0 ≤ T) then 2000 else 100000)
      else 2000 := by
  have reading (r : Option Int) : (match r with
      | none => ms 100
      | some t => if t < 0 then ms 100 else ms 2) = if r.any (fun T => 0 ≤ T) then 2000 else 100000 := by
    cases r with
    | none => rfl
    | some t => by_cases h : t < 0 <;> simp [h, ms]
  cases c
  · exact reading _
  · exact reading _
  · rfl

theorem overcurrentDue_iff (c : ChannelId) (s : State) :
    overcurrentDue c s = true ↔ HasRun (channelOf c s).overFrom (filterTime c s) s := hasRun_iff ..

theorem ageOutDue_iff (c : ChannelId) (s : State) :
    ageOutDue c s = true ↔ (channelOf c s).state ≠ .lockedOff ∧ ∃ t ∈ (channelOf c s).trips, t + 60000000 ≤ s.clock.now := by
  simp only [ageOutDue, Bool.and_eq_true, bne_iff_ne, List.any_eq_true, decide_eq_true_eq]
  rfl

theorem onTimeDue_iff (h : HeaterId) (s : State) :
    onTimeDue h s = true ↔ (heaterOf h s).ch.on = true ∧ (heaterOf h s).ch.applied < 64
      ∧ s.bud.periodAt + (heaterOf h s).ch.applied * 15625 ≤ s.clock.now := by
  simp only [onTimeDue, Bool.and_eq_true, decide_eq_true_eq, and_assoc]
  rfl

theorem gapDue_iff (p : PortId) (s : State) :
    gapDue p s = true ↔ (portOf p s).assembly ≠ [] ∧ (portOf p s).lastByte + 5000 < s.clock.now := by
  simp only [gapDue, Bool.and_eq_true, Bool.not_eq_true', List.isEmpty_eq_false_iff, decide_eq_true_eq]
  rfl

theorem stallDue_iff (p : PortId) (s : State) :
    stallDue p s = true ↔ (portOf p s).stalled = false ∧ HasRun (portOf p s).stallFrom 500000 s := by
  rw [stallDue, Bool.and_eq_true, Bool.not_eq_true', hasRun_iff]
  rfl

theorem deadlineCause_isSome_iff (d : DeadlineState) : (deadlineCause d).isSome = true ↔ d ∈ [DeadlineState.bootWindow, .heartbeat] := by
  cases d <;> decide

theorem deadlineDue_iff (s : State) :
    deadlineDue s = true ↔ s.sup.deadline ∈ [DeadlineState.bootWindow, .heartbeat] ∧ s.sup.expiry ≤ s.clock.now := by
  rw [deadlineDue, Bool.and_eq_true, deadlineCause_isSome_iff, decide_eq_true_eq]

theorem suspensionDue_iff (s : State) :
    suspensionDue s = true ↔ s.sup.deadline = .suspended ∧ ∃ x, s.sup.suspension = some x ∧ x.expiry ≤ s.clock.now := by
  unfold suspensionDue
  cases s.sup.suspension <;> simp

theorem armDue_iff (s : State) : armDue s = true ↔ ∃ e, s.sup.arm = some e ∧ e ≤ s.clock.now := by
  unfold armDue
  cases s.sup.arm <;> simp

/-! ## The rows that do nothing -/

theorem moveKey_of_not_ready {p : Nat} {k : Key} {s : State} (key : s.keys.keys[p]? = some k) {ready : Key → Bool} (h : ready k = false)
    (act : Key → Key × Option Made) : moveKey p ready act s = s := by
  simp only [moveKey, key, h, Bool.false_eq_true, if_false]

theorem exec_press_of_not_due {p : Nat} {k : Key} {s : State} (hp : s.powered = true) (key : s.keys.keys[p]? = some k)
    (h : ¬ (k.state = .pressPending ∧ pressEff s ≤ k.pending + 5)) : exec (.press p) s = .next s := by
  refine (whenOn_of_powered hp _).trans (congrArg _ (moveKey_of_not_ready key ?_ _))
  rw [Bool.eq_false_iff]
  simp only [ne_eq, Bool.and_eq_true, beq_iff_eq, decide_eq_true_eq]
  exact fun due => h ⟨due.1.1.1, due.2⟩

theorem exec_release_of_not_due {p : Nat} {k : Key} {s : State} (hp : s.powered = true) (key : s.keys.keys[p]? = some k)
    (h : ¬ (k.state = .releasePending ∧ relEff s ≤ k.pending + 5)) : exec (.release p) s = .next s := by
  refine (whenOn_of_powered hp _).trans (congrArg _ (moveKey_of_not_ready key ?_ _))
  rw [Bool.eq_false_iff]
  simp only [ne_eq, Bool.and_eq_true, beq_iff_eq, decide_eq_true_eq]
  exact fun due => h ⟨due.1.1, due.2⟩

theorem isDown_iff (k : Key) : k.isDown = true ↔ k.state = .down ∨ k.state = .releasePending := by
  simp [Key.isDown]

theorem exec_stuck_of_not_due {p : Nat} {k : Key} {s : State} (hp : s.powered = true) (key : s.keys.keys[p]? = some k)
    (h : ¬ ((k.state = .down ∨ k.state = .releasePending) ∧ s.cfg.keypad.tStuck ≠ 0
      ∧ s.cfg.keypad.tStuck * 1000 ≤ min 600000 (k.held + 5))) : exec (.stuck p) s = .next s := by
  refine (whenOn_of_powered hp _).trans (congrArg _ (moveKey_of_not_ready key ?_ _))
  rw [Bool.eq_false_iff]
  simp only [ne_eq, reachesStuck, Bool.and_eq_true, isDown_iff, decide_eq_true_eq]
  exact fun due => h ⟨due.1.1, due.2⟩

theorem exec_stuckClear_of_not_due {p : Nat} {k : Key} {s : State} (hp : s.powered = true) (key : s.keys.keys[p]? = some k)
    (h : ¬ (k.state = .stuck ∧ relEff s ≤ k.pending + 5)) : exec (.stuckClear p) s = .next s := by
  refine (whenOn_of_powered hp _).trans (congrArg _ (moveKey_of_not_ready key ?_ _))
  rw [Bool.eq_false_iff]
  simp only [ne_eq, Bool.and_eq_true, beq_iff_eq, decide_eq_true_eq]
  exact fun due => h ⟨due.1.1, due.2⟩

theorem exec_keyRepeat_of_not_due {p : Nat} {k : Key} {s : State} (hp : s.powered = true) (key : s.keys.keys[p]? = some k)
    (h : ¬ (k.state = .down ∧ k.repeating = true
      ∧ (if k.repeats = 0 then s.cfg.keypad.repeatDelay else s.cfg.keypad.repeatPeriod) ≤ k.repeatTime + 5)) :
    exec (.keyRepeat p) s = .next s := by
  refine (whenOn_of_powered hp _).trans (congrArg _ (moveKey_of_not_ready key ?_ _))
  rw [Bool.eq_false_iff]
  simp only [ne_eq, Bool.and_eq_true, beq_iff_eq, decide_eq_true_eq]
  exact fun due => h ⟨due.1.1.1, due.1.1.2, due.2⟩

theorem chordAt_eq {s : State} {i : Nat} {d : ChordDef} (h : s.cfg.chords[i]? = some d) : chordAt s i = d := by
  rw [chordAt, List.getD_eq_getElem?_getD, h, Option.getD_some]

theorem exec_chordFire_of_not_due {i : Nat} {d : ChordDef} {c : ChordRun} {s : State} (hp : s.powered = true)
    (chord : s.cfg.chords[i]? = some d) (run : s.keys.chords[i]? = some c)
    (h : ¬ (c.state = .holding ∧ d.count ≠ 0 ∧ d.holdMs ≤ c.elapsed + 5)) : exec (.chordFire i) s = .next s := by
  have waits : chordReady i c s = false := by
    rw [Bool.eq_false_iff]
    simp only [chordReady, chordAt_eq chord, ne_eq, Bool.and_eq_true, beq_iff_eq, bne_iff_ne, decide_eq_true_eq]
    exact fun due => h ⟨due.1.1.1.1, due.1.1.1.2, due.2⟩
  unfold exec execChordFire
  simp only [whenOn_of_powered hp, run, waits, Bool.false_eq_true, if_false]

theorem exec_programmingEnd_of_idle {s : State} (hp : s.powered = true) (h : s.store.programming = none ∨ s.store.capture = none)
    (a b : Bool) : exec (.programmingEnd a b) s = .next s := by
  unfold exec execProgrammingEnd
  rcases h with h | h <;> simp [whenOn_of_powered hp, h]

theorem exec_soakComplete_of_not_due {s : State} (h : ¬ (s.sens.gate.satisfied = true ∧ s.sens.gate.complete = false
    ∧ s.cfg.sensing.tSoak * 1000 ≤ s.sens.gate.soakMs + 250)) : exec .soakComplete s = .next s := by
  unfold exec execSoakComplete
  exact whenOn_ite_neg h

theorem exec_overheatDwellExpiry_of_not_due {s : State} (h : ¬ (s.ctl.phase ≠ .cooldown ∧ 10000 ≤ s.sens.dwellMs + 250)) :
    exec .overheatDwellExpiry s = .next s := by
  unfold exec execOverheatDwellExpiry
  exact whenOn_ite_neg h

theorem exec_coolingDegradedSet_of_not_due {s : State} (h : ¬ (s.chan.cooling.degraded = false ∧ 120000 ≤ s.chan.cooling.setMs + 250)) :
    exec .coolingDegradedSet s = .next s := by
  unfold exec execCoolingDegradedSet
  exact whenOn_ite_neg h

theorem exec_coolingDegradedClear_of_not_due {s : State}
    (h : ¬ (s.chan.cooling.degraded = true ∧ 120000 ≤ s.chan.cooling.clearMs + 250)) : exec .coolingDegradedClear s = .next s := by
  unfold exec execCoolingDegradedClear
  exact whenOn_ite_neg h

theorem exec_transmitComplete_of_idle {p : PortId} {s : State} (h : (portOf p s).sending = none) : exec (.transmitComplete p) s = .next s := by
  unfold exec execTransmitComplete
  exact whenOn_ite_neg (by simp [h])

/-- A diagnostic of a heater whose measurement has not run its 50 ms. -/
theorem exec_diagnostic_of_not_due {h : HeaterId} {s : State} :
    (¬ HasRun (heaterOf h s).openFrom 50000 s → exec (.openLoadDetected h) s = .next s)
    ∧ (¬ HasRun (heaterOf h s).goodFrom 50000 s → exec (.openLoadCleared h) s = .next s)
    ∧ (¬ HasRun (heaterOf h s).shortFrom 50000 s → exec (.shortToSupplyDetected h) s = .next s)
    ∧ (¬ HasRun (heaterOf h s).lowFrom 50000 s → exec (.shortToSupplyCleared h) s = .next s) := by
  unfold exec execOpenLoadDetected execOpenLoadCleared execShortToSupplyDetected execShortToSupplyCleared
  exact ⟨fun n => whenOn_ite_neg ((hasRun_iff ..).not.mpr n), fun n => whenOn_ite_neg ((hasRun_iff ..).not.mpr n),
    fun n => whenOn_ite_neg ((hasRun_iff ..).not.mpr n), fun n => whenOn_ite_neg ((hasRun_iff ..).not.mpr n)⟩

theorem exec_stallDetected_of_not_due {s : State} (h : ¬ HasRun s.chan.fan.stallFrom 5000000 s) : exec .stallDetected s = .next s := by
  unfold exec execStallDetected
  exact whenOn_ite_neg ((hasRun_iff ..).not.mpr h)

/-- Settles O53: each row's own condition is read off its due test, and the row does nothing where it fails. -/
theorem rowsNotDueChangeNothing : Obligations.RowsNotDueChangeNothing := by
  intro s hp
  unfold exec execWarmUpLimitExpiry execPwrgoodStabilityComplete execPwrgoodWaitExpiry execSupplyLossFilterExpiry execResetPulseEnd
    execOffTimeEnd execHeatInhRelease execTachTimeout execOverlayEnd execOvercurrentTrip execTripAgeOut execHeaterOnTimeEnd
    execFrameGapTimeout execPortStalled execDeadlineExpiry execArmExpiry execSuspensionExpiry
  refine ⟨fun h => whenOn_test_neg (test := warmUpDue) ?_, fun e he early => whenOn_test_neg (test := warmUpDue) ?_,
    fun h => whenOn_test_neg ((stabilityDue_iff s).not.mpr h), fun h => whenOn_test_neg ((waitDue_iff s).not.mpr h),
    fun h => whenOn_test_neg ((supplyLossDue_iff s).not.mpr h), fun h => whenOn_test_neg ((resetPulseDue_iff s).not.mpr h),
    fun h => whenOn_test_neg ((offTimeDue_iff s).not.mpr h), fun h => whenOn_test_neg ((releaseDue_iff s).not.mpr h),
    fun h => whenOn_test_neg ((tachDue_iff s).not.mpr h),
    exec_stallDetected_of_not_due, fun h => whenOn_test_neg ((overlayDue_iff s).not.mpr h),
    fun c => ⟨fun h => whenOn_test_neg ((overcurrentDue_iff c s).not.mpr (filterTime_eq c s ▸ h)),
      fun h => whenOn_test_neg (test := ageOutDue c) ?_⟩,
    fun h => ⟨exec_diagnostic_of_not_due.1, exec_diagnostic_of_not_due.2.1, exec_diagnostic_of_not_due.2.2.1, exec_diagnostic_of_not_due.2.2.2,
      fun n => whenOn_test_neg ((onTimeDue_iff h s).not.mpr n)⟩,
    fun p => ⟨fun h => whenOn_test_neg (test := gapDue p) ?_, fun h => whenOn_test_neg ((stallDue_iff p s).not.mpr h),
      exec_transmitComplete_of_idle⟩,
    fun h => whenOn_test_neg (test := deadlineDue) ?_, fun h => whenOn_test_neg (test := armDue) ?_,
    fun h => whenOn_test_neg (test := suspensionDue) ?_, exec_programmingEnd_of_idle hp, exec_soakComplete_of_not_due,
    exec_overheatDwellExpiry_of_not_due, ⟨exec_coolingDegradedSet_of_not_due, exec_coolingDegradedClear_of_not_due⟩,
    fun p k key => ⟨exec_press_of_not_due hp key, exec_release_of_not_due hp key, exec_stuck_of_not_due hp key,
      exec_stuckClear_of_not_due hp key, exec_keyRepeat_of_not_due hp key⟩,
    fun i d c chord run => exec_chordFire_of_not_due hp chord run⟩
  · rw [warmUpDue_iff]
    rintro ⟨preheat, e, running, -⟩
    rcases h with h | h | h
    · exact h preheat
    all_goals rw [running] at h; exact WarmUpTimer.noConfusion h
  · rw [warmUpDue_iff]
    rintro ⟨-, e', running, due⟩
    obtain rfl := WarmUpTimer.running.inj (running.symm.trans he)
    omega
  · rw [ageOutDue_iff]
    rintro ⟨open_, t, mem, old⟩
    rcases h with h | h
    · exact open_ h
    · have := h t mem
      omega
  · rw [gapDue_iff]
    rintro ⟨held, passed⟩
    rcases h with h | h
    · exact held h
    · omega
  · rw [deadlineDue_iff]
    rintro ⟨runs, due⟩
    rcases h with h | h
    · exact h runs
    · omega
  · rw [armDue_iff]
    rintro ⟨e, armed, due⟩
    have := h e armed
    omega
  · rw [suspensionDue_iff]
    rintro ⟨suspended, x, held, due⟩
    rcases h with h | h
    · exact h suspended
    · have := h x held
      omega

end Sys2Proof.Machine
end

section
/-! Phase entries as the statements give them, and the rows that bring them: PREHEAT left, PWRGOOD's edges, the actions, and the expiries that
request a restart. -/

namespace Sys2Proof.Machine

/-! ## What an entry changes beside its allocation -/

/-- `s` with what a phase entry changes up to its allocation. -/
def State.begunAs (s t : State) : State :=
  { s with
    clock.timeInPhase := 0
    clock.phaseAt := s.clock.now
    lines := t.lines
    ctl := { t.ctl with overlay := s.ctl.overlay, overlayFrom := s.ctl.overlayFrom, firings := s.ctl.firings }
    link.up := t.link.up
    link.c.stallFrom := t.link.c.stallFrom
    sup.arm := t.sup.arm
    sup.deadline := t.sup.deadline
    sup.suspension := t.sup.suspension
    keys.queue := t.keys.queue
    keys.loss := t.keys.loss
    note.outstanding := t.note.outstanding }

/-- A flag among those pending, taken over again. -/
theorem or_or_and_and (a b m : BitVec 13) : a ||| ((a ||| (b &&& m)) &&& m) = a ||| (b &&& m) := by
  ext i
  simp
  grind

theorem enteredAs_allocatedAs {s u : State} (h : u = s.begunAs u) (v : State) : u.allocatedAs v = s.enteredAs (u.allocatedAs v) := by
  rw [h]
  simp only [State.enteredAs, State.allocatedAs, State.begunAs, State.deliveredAs, or_or_and_and]
  rfl

/-- An allocation made where an entry has begun. -/
theorem allocate_enteredAs (reserve : Bool) {s u : State} (h : u = s.begunAs u) : allocate reserve u = s.enteredAs (allocate reserve u) := by
  rw [allocate_allocatedAs]
  exact enteredAs_allocatedAs h _

/-- An entry that follows another at the same instant. -/
theorem enteredAs_trans {s t u : State} (h : t = s.enteredAs t) (k : u = t.enteredAs u) : u = s.enteredAs u := by
  have pending : t.note.pending = s.note.pending ||| (t.note.pending &&& causeBit .budgetLimited) := congrArg (fun t => t.note.pending) h
  have later : u.note.pending = t.note.pending ||| (u.note.pending &&& causeBit .budgetLimited) := congrArg (fun t => t.note.pending) k
  have both : t.note.pending ||| (u.note.pending &&& causeBit .budgetLimited) = s.note.pending ||| (u.note.pending &&& causeBit .budgetLimited) := by
    generalize causeBit .budgetLimited = m at *
    ext i hi
    have hp := congrArg (fun b => b[i]) pending
    have hl := congrArg (fun b => b[i]) later
    simp at hp hl ⊢
    grind
  have frame : t.enteredAs u = s.enteredAs u := by
    rw [h]
    have same : (s.enteredAs t).enteredAs u = { s.enteredAs u with
        note := { (s.enteredAs u).note with pending := t.note.pending ||| (u.note.pending &&& causeBit .budgetLimited) } } := by
      rw [pending]
      rfl
    rw [same, both]
    rfl
  exact k.trans frame

/-! ## The entries -/

theorem enteredAs_now {s t : State} (h : t = s.enteredAs t) : t.clock.now = s.clock.now := congrArg (fun t => t.clock.now) h

theorem enteredAs_pins {s t : State} (h : t = s.enteredAs t) : t.pins = s.pins := congrArg (fun t => t.pins) h

theorem enteredAs_sens {s t : State} (h : t = s.enteredAs t) : t.sens = s.sens := congrArg (fun t => t.sens) h

theorem enteredAs_cfg {s t : State} (h : t = s.enteredAs t) : t.cfg = s.cfg := congrArg (fun t => t.cfg) h

theorem stopSupervision_begun (p : Phase) (s : State) : stopSupervision (beginPhase p s) = s.begunAs (stopSupervision (beginPhase p s)) := by
  rw [beginPhase_eq]
  rfl

theorem offBegun_begun (p : Phase) (s : State) : offBegun p s = s.begunAs (offBegun p s) := by
  rw [offBegun, powerOff_eq, assertReset_eq, beginPhase_eq]
  rfl

theorem enterOff_enteredAs (p : Phase) (s : State) : enterOff p s = s.enteredAs (enterOff p s) :=
  allocate_enteredAs false (offBegun_begun p s)

/-- The lines and the timers that an entry sets after its allocation. -/
theorem enteredAs_setTimers {s v : State} (h : v = s.enteredAs v) (l : Lines) (warmUp : WarmUpTimer) (wait stability offTime : Option Nat) :
    { v with lines := l, ctl.warmUp := warmUp, ctl.wait := wait, ctl.stability := stability, ctl.offTime := offTime }
      = s.enteredAs { v with
          lines := l, ctl.warmUp := warmUp, ctl.wait := wait, ctl.stability := stability, ctl.offTime := offTime } :=
  congrArg (fun v : State => { v with
    lines := l, ctl.warmUp := warmUp, ctl.wait := wait, ctl.stability := stability, ctl.offTime := offTime }) h

theorem enterPowerOn_enteredAs (s : State) : enterPowerOn s = s.enteredAs (enterPowerOn s) := by
  have allocated := allocate_enteredAs true (stopSupervision_begun .powerOn s)
  rw [enterPowerOn]
  generalize allocate true (stopSupervision (beginPhase .powerOn s)) = v at allocated ⊢
  exact enteredAs_setTimers allocated { v.lines with pwrEn := true, moves := [.dutiesLowered, .pwrEnOn] } v.ctl.warmUp
    (some v.clock.now) (if v.pins.pwrgood then some v.clock.now else none) v.ctl.offTime

theorem allocate_compCharge_true (s : State) : (allocate true s).bud.last.compCharge = min s.cfg.budget.rc s.cfg.budget.bTot := by
  rw [allocate_last]
  rfl

theorem allocate_compCharge_false (s : State) : (allocate false s).bud.last.compCharge = 0 := by
  rw [allocate_last]
  rfl

theorem enterPowerOn_channels (s : State) :
    (enterPowerOn s).chan = (allocate true (stopSupervision (beginPhase .powerOn s))).chan
      ∧ (enterPowerOn s).bud = (allocate true (stopSupervision (beginPhase .powerOn s))).bud := by
  rw [enterPowerOn]
  generalize allocate true (stopSupervision (beginPhase .powerOn s)) = v
  exact ⟨rfl, rfl⟩

theorem enterPowerOn_entered (s : State) : PowerOnEntered s (enterPowerOn s) := by
  obtain ⟨chan, bud⟩ := enterPowerOn_channels s
  refine ⟨⟨enterPowerOn_phase s, ?_, fun h => absurd rfl h, ?_, ?_, ?_, ?_⟩, enterPowerOn_enteredAs s, enterPowerOn_allocated s, ?_, ?_, rfl, rfl,
    ?_, ?_, ?_, ?_, ?_, ?_⟩
  case refine_6 =>
    rw [bud, allocate_compCharge_true]
    simp [stopSupervision, beginPhase_eq]
  case refine_7 =>
    rw [GrantsApplied, chan, bud]
    exact allocate_grants true _
  all_goals simp [enterPowerOn, stopSupervision, beginPhase_eq]

/-- What an entry with PWR_EN off leaves, under whatever timers the phase itself starts. -/
theorem enterOff_off (p : Phase) (s : State) : OffEntered p s (enterOff p s) := by
  have ctl := enterOff_ctl p s
  rw [beginPhase_eq] at ctl
  have lines := enterOff_lines p s
  refine ⟨⟨enterOff_phase p s, ?_, ?_, ?_, ?_, ?_, ?_⟩, enterOff_enteredAs p s, enterOff_allocated p s, allocate_compCharge_false _,
    allocate_grants false (offBegun p s), ?_, ?_, ?_, enterOff_up p s, ?_, ?_, ?_, enterOff_runEnded p s⟩
  case refine_10 => simp [enterOff, setUp, syncStall, keepTimer, holdsFrame, setPort, portOf]
  case refine_11 | refine_12 => simp [enterOff, stopSupervision, powerOff_eq, assertReset_eq]
  all_goals simp [ctl, lines]

theorem preheatBegun_ctl (s : State) : (preheatBegun s).ctl = { (beginPhase .preheat s).ctl with
    warmUp := .running (s.clock.now + s.cfg.sensing.warmUpLimit * 60000000) } := by
  have clock : (enterOff .preheat s).clock.now = s.clock.now := enteredAs_now (enterOff_enteredAs .preheat s)
  have cfg : (enterOff .preheat s).cfg = s.cfg := enteredAs_cfg (enterOff_enteredAs .preheat s)
  simp only [preheatBegun, enterOff_ctl, clock, cfg, sec, Nat.reduceMul]

theorem setTimers_off {p : Phase} {s v : State} (h : OffEntered p s v) (warmUp : WarmUpTimer) (offTime : Option Nat)
    (preheat : p ≠ .preheat → warmUp = .stopped) (cycle : p ≠ .powerCycle → offTime = none) :
    OffEntered p s { v with ctl.warmUp := warmUp, ctl.offTime := offTime } := by
  obtain ⟨⟨phase, -, wait, loss, pulse, -, led⟩, frame, rest⟩ := h
  exact ⟨⟨phase, preheat, wait, loss, pulse, cycle, led⟩,
    enteredAs_setTimers frame v.lines warmUp v.ctl.wait v.ctl.stability offTime, rest⟩

theorem enterPowerCycle_off (s : State) : OffEntered .powerCycle s (enterPowerCycle s) := by
  have off := enterOff_off .powerCycle s
  rw [enterPowerCycle]
  generalize enterOff .powerCycle s = v at off ⊢
  exact setTimers_off off v.ctl.warmUp (some v.clock.now) off.1.2.1 fun h => absurd rfl h

theorem preheatBegun_off (s : State) : OffEntered .preheat s (preheatBegun s) := by
  have off := enterOff_off .preheat s
  rw [preheatBegun]
  generalize enterOff .preheat s = v at off ⊢
  exact setTimers_off off (.running (v.clock.now + v.cfg.sensing.warmUpLimit * sec 60)) v.ctl.offTime (fun h => absurd rfl h) off.1.2.2.2.2.2.1

/-- An allocation made in a phase reads of the rest what `SameToAllocate` names alone. -/
theorem AllocatedIn.of_same {p : Phase} {reserve : Bool} {s u t : State} (h : AllocatedIn p reserve s t)
    (same : SameToAllocate { u with ctl.phase := p } { s with ctl.phase := p }) : AllocatedIn p reserve u t := by
  obtain ⟨chan, bud, down, port, limited⟩ := h
  obtain ⟨hc, hb, hd, hl, hq⟩ := allocate_reads reserve same
  exact ⟨chan.trans hc, bud.trans hb, down.trans hd, port.trans hl, limited.trans (congrArg (BitVec.getLsbD · _) hq)⟩

theorem enterCooldown_off (s : State) : OffEntered .cooldown s (enterCooldown s) := by
  have off := enterOff_off .cooldown { s with ctl.originLockout := decide (s.ctl.phase = .lockout) }
  rw [enterCooldown]
  generalize enterOff .cooldown { s with ctl.originLockout := decide (s.ctl.phase = .lockout) } = v at off ⊢
  obtain ⟨entered, frame, allocated, rest⟩ := off
  exact ⟨entered, frame, allocated.of_same ⟨rfl, rfl, rfl, rfl, rfl, rfl, rfl, rfl, rfl, rfl⟩, rest⟩

/-- The allocation of an entry with PWR_EN off, as what it leaves to read. -/
theorem enterOff_sameAllocated (p : Phase) (s : State) : SameAllocated (allocate false { s with ctl.phase := p }) (enterOff p s) :=
  allocate_reads false (by rw [powerOff_eq, assertReset_eq, beginPhase_eq]; exact ⟨rfl, rfl, rfl, rfl, rfl, rfl, rfl, rfl, rfl, rfl⟩)

/-- What an entry that does not leave RUN adds to the end of RUN. -/
theorem RunEnded.trans {s t u : State} (h : RunEnded s t) (k : RunEnded t u) (out : t.ctl.phase ≠ .run) : RunEnded s u := by
  unfold RunEnded at h k ⊢
  rw [if_neg out] at k
  obtain ⟨hq, hl, hs, ho⟩ := k
  rwa [hq, hl, hs, ho]

theorem enterPowerOn_runEnded (s : State) : RunEnded s (enterPowerOn s) := by
  have h := beginPhase_runEnded .powerOn s
  unfold RunEnded at h ⊢
  simpa [enterPowerOn, stopSupervision] using h

theorem enterPowerOn_up (s : State) : (enterPowerOn s).link.up = s.link.up := by
  simp [enterPowerOn, stopSupervision, beginPhase_eq]

theorem preheatBegun_sameAllocated (s : State) : SameAllocated (allocate false { s with ctl.phase := .preheat }) (preheatBegun s) := by
  have same := enterOff_sameAllocated .preheat s
  rw [preheatBegun]
  generalize allocate false { s with ctl.phase := .preheat } = u at same ⊢
  generalize enterOff .preheat s = v at same ⊢
  exact same

/-- What the allocation of a POWER_ON entry reads once PREHEAT has been entered. -/
theorem preheatBegun_sameToAllocate (s : State) :
    SameToAllocate { allocate false { s with ctl.phase := .preheat } with ctl.phase := .powerOn }
      { preheatBegun s with ctl.phase := .powerOn } := by
  have frame := (preheatBegun_off s).2.1
  have now := enteredAs_now frame
  have pins := enteredAs_pins frame
  have sens := enteredAs_sens frame
  have cfg := enteredAs_cfg frame
  have same := preheatBegun_sameAllocated s
  have now' := congrArg (fun c => c.now) (allocate_clock false { s with ctl.phase := .preheat })
  have pins' := allocate_pins false { s with ctl.phase := .preheat }
  have sens' := allocate_sens false { s with ctl.phase := .preheat }
  have cfg' := allocate_cfg false { s with ctl.phase := .preheat }
  generalize allocate false { s with ctl.phase := .preheat } = u at now' pins' sens' cfg' same ⊢
  generalize preheatBegun s = v at now pins sens cfg same ⊢
  obtain ⟨hc, hb, hd, hl, hq⟩ := same
  exact ⟨now.trans now'.symm, pins.trans pins'.symm, rfl, sens.trans sens'.symm, hc, hb, hd, hl, hq, cfg.trans cfg'.symm⟩

theorem enterPreheat_entered (s : State) : PreheatEntered s (enterPreheat s) := by
  obtain ⟨-, frame, -, -, -, -, -, -, up, -, -, -, ended⟩ := preheatBegun_off s
  have ctl := preheatBegun_ctl s
  unfold PreheatEntered
  rw [enterPreheat_eq, enteredAs_sens frame]
  split
  · obtain ⟨-, later, allocated, charge, -, moves, -, -, wait, -⟩ := enterPowerOn_entered (preheatBegun s)
    exact ⟨enterPowerOn_phase _, enteredAs_trans frame later, allocated.of_same (preheatBegun_sameToAllocate s), moves,
      wait.trans (congrArg some (enteredAs_now frame)), charge.trans (by rw [enteredAs_cfg frame]), (enterPowerOn_up _).trans up,
      ended.trans (enterPowerOn_runEnded _) (by rw [preheatBegun_phase]; exact fun h => Phase.noConfusion h)⟩
  · rw [beginPhase_eq] at ctl
    exact ⟨preheatBegun_off s, congrArg (fun c => c.warmUp) ctl, congrArg (fun c => c.originLockout) ctl⟩

/-! ## PREHEAT left (R8, R9, R18) -/

theorem warmUpExpires_entered {s : State} (policy : s.cfg.sensing.policy = .bootAnyway) :
    PowerOnEntered (if s.sens.board.state = .failed ∨ s.sens.display.state = .failed then { s with note.pending := s.note.pending ||| 8#13 } else s)
      (warmUpExpires s) := by
  have raised : raiseIf (s.sens.board.state == .failed || s.sens.display.state == .failed) .sensorFault s =
      if s.sens.board.state = .failed ∨ s.sens.display.state = .failed then { s with note.pending := s.note.pending ||| 8#13 } else s := by
    simp only [raiseIf, Bool.or_eq_true, beq_iff_eq]
    rfl
  simp only [warmUpExpires, policy, raised]
  exact enterPowerOn_entered _

theorem completeSoak_entered (s : State) (preheat : s.ctl.phase = .preheat) :
    PowerOnEntered { s with sens.gate.complete := true } (completeSoak s) := by
  simp only [completeSoak, preheat, if_true]
  exact enterPowerOn_entered _

/-- Settles O6: each row is due by its own test, and leads to the entry of POWER_ON or PREHEAT. -/
theorem preheatIsLeft : Obligations.PreheatIsLeft := by
  refine ⟨fun e s ⟨hp, preheat⟩ running due => ?_, fun s hp satisfied incomplete reached => ?_, fun s ⟨hp, cycle⟩ ran => ?_⟩
  · refine ⟨_, whenOn_test_pos hp ((warmUpDue_iff s).mpr ⟨preheat, e, running, due⟩), fun policy => ?_, warmUpExpires_entered⟩
    simp only [warmUpExpires, policy]
  · unfold exec execSoakComplete
    refine ⟨_, whenOn_ite_pos hp ⟨satisfied, incomplete, reached⟩, fun preheat => ?_, fun other => ?_⟩
    · have entered := completeSoak_entered
        { s with sens.gate := { s.sens.gate with soakMs := s.sens.gate.soakMs + 250, span := s.cfg.sensing.tSoak } } preheat
      have out := enterPowerOn_phase { s with
        sens.gate := { s.sens.gate with soakMs := s.sens.gate.soakMs + 250, complete := true, span := s.cfg.sensing.tSoak } }
      rw [settle_of_not_run (by rw [entered.1.1]; exact fun h => Phase.noConfusion h)]
      exact entered
    · simp only [completeSoak, other, if_false]
      exact settle_deliveries _
  · exact ⟨_, whenOn_test_pos hp ((offTimeDue_iff s).mpr ⟨cycle, ran⟩), enterPreheat_entered s⟩

end Sys2Proof.Machine
end

section
/-! The restart actions, the exit of COOLDOWN, PWRGOOD's edges with the entries to BOOT, and the expiries that request a restart. -/

namespace Sys2Proof.Machine

/-! ## The actions (R16) -/

theorem carryOut_reset_eq (s : State) :
    carryOut .reset s = if s.ctl.phase ∈ [Phase.powerOn, .boot, .run] then enterRestart s else s := by
  cases h : s.ctl.phase <;> simp [carryOut, h]

theorem carryOut_lockout_eq (s : State) :
    carryOut .lockout s = if s.ctl.phase ∈ [Phase.powerOn, .boot, .run] then enterLockout s else s := by
  cases h : s.ctl.phase <;> simp [carryOut, h]

theorem carryOut_powerCycle_eq (s : State) :
    carryOut .powerCycle s = if s.ctl.phase ∈ [Phase.powerOn, .boot, .run, .restart] then enterPowerCycle s else s := by
  cases h : s.ctl.phase <;> simp [carryOut, h]

theorem carryOut_cooldown_eq (s : State) :
    carryOut .cooldown s =
      if s.ctl.phase ∈ [Phase.preheat, .powerOn, .boot, .run, .restart, .powerCycle, .lockout] then enterCooldown s else s := by
  cases h : s.ctl.phase <;> simp [carryOut, h]

theorem allocatedAs_self (s : State) : s.allocatedAs s = s := by
  have pending : s.note.pending ||| (s.note.pending &&& causeBit .budgetLimited) = s.note.pending := by
    ext i
    simp
    grind
  simp only [State.allocatedAs, pending]
  rfl

/-- An entry without an allocation. -/
theorem enteredAs_of_begun {s t : State} (h : t = s.begunAs t) : t = s.enteredAs t := by
  have := enteredAs_allocatedAs h t
  rwa [allocatedAs_self] at this

theorem enterRestart_eq (s : State) : enterRestart s = setUp [] { beginPhase .restart s with
    lines := { pwrEn := s.lines.pwrEn, pcRst := true, moves := if s.lines.pcRst then [] else [.pcRstAsserted] }
    sup := { (beginPhase .restart s).sup with arm := none, deadline := .stopped }
    ctl := { (beginPhase .restart s).ctl with
      resetPulse := some s.clock.now
      supplyLoss := if s.pins.pwrgood then none
        else if s.ctl.supplyLoss.any fun t0 => t0 + 50000 ≤ s.clock.now then s.ctl.supplyLoss else some s.clock.now } } := by
  have loss : lossAtRestart s = if s.pins.pwrgood then none
      else if s.ctl.supplyLoss.any fun t0 => t0 + 50000 ≤ s.clock.now then s.ctl.supplyLoss else some s.clock.now := by
    have ran : hasRun s.ctl.supplyLoss (ms 50) s.clock.now = s.ctl.supplyLoss.any fun t0 => decide (t0 + 50000 ≤ s.clock.now) := by
      cases s.ctl.supplyLoss <;> rfl
    simp only [lossAtRestart, ran]
  rw [enterRestart, assertReset_eq, loss, beginPhase_eq]
  rfl

theorem enterRestart_begun (s : State) : enterRestart s = s.begunAs (enterRestart s) := by
  rw [enterRestart_eq, beginPhase_eq]
  rfl

theorem enterRestart_entered (s : State) : Entered .restart s (enterRestart s) := by
  rw [enterRestart_eq, beginPhase_eq]
  exact ⟨rfl, fun _ => rfl, fun _ => ⟨rfl, rfl⟩, fun _ _ h => absurd rfl h, fun h => absurd rfl h, fun _ => rfl, rfl⟩

theorem enterRestart_channels (s : State) : (enterRestart s).chan = s.chan ∧ (enterRestart s).bud = s.bud := by
  rw [enterRestart_eq, beginPhase_eq]
  exact ⟨rfl, rfl⟩

theorem enterRestart_lines (s : State) : (enterRestart s).lines =
    { pwrEn := s.lines.pwrEn, pcRst := true, moves := if s.lines.pcRst then [] else [.pcRstAsserted] } := by
  rw [enterRestart_eq]
  rfl

theorem enterRestart_timers (s : State) : (enterRestart s).ctl.resetPulse = some s.clock.now
    ∧ (enterRestart s).ctl.supplyLoss = (if s.pins.pwrgood then none
        else if s.ctl.supplyLoss.any fun t0 => t0 + 50000 ≤ s.clock.now then s.ctl.supplyLoss else some s.clock.now) := by
  rw [enterRestart_eq]
  exact ⟨rfl, rfl⟩

theorem enterRestart_up (s : State) : (enterRestart s).link.up = [] := by rw [enterRestart_eq]; rfl

theorem enterPowerCycle_offTime (s : State) : (enterPowerCycle s).ctl.offTime = some s.clock.now := by
  have now := enteredAs_now (enterOff_enteredAs .powerCycle s)
  simp only [enterPowerCycle, now]

theorem enterLockout_origin (s : State) : (enterLockout s).ctl.originLockout = s.ctl.originLockout := by
  rw [enterLockout, enterOff_ctl, beginPhase_eq]

theorem enterCooldown_origin (s : State) : (enterCooldown s).ctl.originLockout = decide (s.ctl.phase = .lockout) := by
  rw [enterCooldown, enterOff_ctl, beginPhase_eq]

theorem allocate_fan_demand (reserve : Bool) (s : State) :
    (allocate reserve s).chan.fan.ch.demand = (offerDemands s).chan.fan.ch.demand := by
  rw [allocate_chan]
  rfl

/-- In COOLDOWN an allocation drives no heater, and demands 64 of a fan that is not locked off (R40, R44). -/
theorem allocate_cooldown {s : State} (cool : s.ctl.phase = .cooldown) (reserve : Bool) :
    (allocate reserve s).chan.h0.ch.applied = 0 ∧ (allocate reserve s).chan.h1.ch.applied = 0
      ∧ (allocate reserve s).chan.fan.ch.demand = (if s.chan.fan.ch.state = .lockedOff then 0 else 64) := by
  obtain ⟨-, h0, h1, -⟩ := allocate_inBudget reserve s
  refine ⟨h0.2.2.2.2.2 (by simpa using cool), h1.2.2.2.2.2 (by simpa using cool), ?_⟩
  rw [allocate_fan_demand]
  simp only [offerDemands, fanDemand, cool, if_true]

theorem offBegun_chan (p : Phase) (s : State) : (offBegun p s).chan = s.chan := congrArg (fun t => t.chan) (offBegun_begun p s)

theorem enterCooldown_channels (s : State) :
    (enterCooldown s).chan.h0.ch.applied = 0 ∧ (enterCooldown s).chan.h1.ch.applied = 0
      ∧ (enterCooldown s).chan.fan.ch.demand = (if s.chan.fan.ch.state = .lockedOff then 0 else 64) := by
  have cool := allocate_cooldown (offBegun_phase .cooldown { s with ctl.originLockout := decide (s.ctl.phase = .lockout) }) false
  rwa [offBegun_chan] at cool

/-! ## COOLDOWN left (R21) -/

theorem cooldownExit_of_none {s : State} (h : s.sens.effBoard = none) : cooldownExit s = s := by
  simp only [cooldownExit, h, ite_self]

theorem cooldownExit_eq {s : State} {b : Int} (cool : s.ctl.phase = .cooldown) (h : s.sens.effBoard = some b) :
    cooldownExit s = if b ≤ s.cfg.sensing.tTrip - 40 then (if s.ctl.originLockout then enterLockout s else enterPreheat s) else s := by
  simp only [cooldownExit, cool, h, if_true]

/-- The exit to PREHEAT comes from COOLDOWN, whose origin is no LOCKOUT. -/
theorem cooldownExit_left {s : State} {b : Int} (cool : s.ctl.phase = .cooldown) (h : s.sens.effBoard = some b)
    (low : b ≤ s.cfg.sensing.tTrip - 40) :
    (s.ctl.originLockout = true → OffEntered .lockout s (cooldownExit s))
      ∧ (s.ctl.originLockout = false → PreheatEntered s (cooldownExit s)) := by
  rw [cooldownExit_eq cool h, if_pos low]
  constructor
  · intro origin
    rw [if_pos origin]
    exact enterOff_off .lockout s
  · intro origin
    rw [origin]
    exact enterPreheat_entered s

/-- Settles O7: each action is one entry from the phases of its list, and nothing from any other. -/
theorem actionsAndCooldownExit : Obligations.ActionsAndCooldownExit := by
  refine ⟨fun a s => ?_, fun s cool => ⟨cooldownExit_of_none, fun b h => ⟨fun high => ?_, cooldownExit_left cool h⟩⟩⟩
  · cases a
    case reset =>
      simp only [carryOut_reset_eq]
      refine ⟨fun h => if_neg h, fun h => ?_⟩
      simp only [true_or, if_true] at h
      simp only [h, if_true]
      obtain ⟨pulse, loss⟩ := enterRestart_timers s
      obtain ⟨chan, bud⟩ := enterRestart_channels s
      exact ⟨fun _ => ⟨enterRestart_entered s, enteredAs_of_begun (enterRestart_begun s), enterRestart_lines s, pulse, loss, enterRestart_up s,
        chan, bud, enterRestart_runEnded s⟩, fun h => RestartAction.noConfusion h, fun h => RestartAction.noConfusion h,
        fun h => RestartAction.noConfusion h⟩
    case powerCycle =>
      simp only [carryOut_powerCycle_eq]
      refine ⟨fun h => if_neg h, fun h => ?_⟩
      simp only [reduceCtorEq, or_self, if_true, if_false] at h
      simp only [h, if_true]
      exact ⟨fun h => RestartAction.noConfusion h, fun _ => ⟨enterPowerCycle_off s, enterPowerCycle_offTime s⟩,
        fun h => RestartAction.noConfusion h, fun h => RestartAction.noConfusion h⟩
    case lockout =>
      simp only [carryOut_lockout_eq]
      refine ⟨fun h => if_neg h, fun h => ?_⟩
      simp only [or_true, if_true] at h
      simp only [h, if_true]
      exact ⟨fun h => RestartAction.noConfusion h, fun h => RestartAction.noConfusion h,
        fun _ => ⟨enterOff_off .lockout s, enterLockout_origin s⟩, fun h => RestartAction.noConfusion h⟩
    case cooldown =>
      simp only [carryOut_cooldown_eq]
      refine ⟨fun h => if_neg h, fun h => ?_⟩
      simp only [reduceCtorEq, or_self, if_false] at h
      simp only [h, if_true]
      exact ⟨fun h => RestartAction.noConfusion h, fun h => RestartAction.noConfusion h, fun h => RestartAction.noConfusion h,
        fun _ => ⟨enterCooldown_off s, enterCooldown_origin s, enterCooldown_channels s⟩⟩
  · rw [cooldownExit_eq cool h, if_neg (by omega)]

end Sys2Proof.Machine
end

section
/-! PWRGOOD's edges and the entries to BOOT, and the expiries that request a restart. -/

namespace Sys2Proof.Machine

/-! ## PWRGOOD (R12 to R15) -/

/-- BOOT entered, whole: from a phase that is not RUN nothing ends but the phase's own timers (R13). -/
theorem enterBoot_eq {s : State} (out : s.ctl.phase ≠ .run) : enterBoot s = { s with
    clock.timeInPhase := 0, clock.phaseAt := s.clock.now
    lines := { s.lines with pcRst := false, moves := [.pcRstReleased] }
    ctl := { s.ctl with
      phase := .boot, warmUp := .stopped, wait := none, stability := none, resetPulse := none, offTime := none
      supplyLoss := if s.pins.pwrgood then none else some s.clock.now
      ledFrom := if s.ctl.overlay.isSome then s.ctl.ledFrom else s.clock.now }
    sup := { s.sup with
      deadline := .bootWindow, expiry := s.clock.now + s.cfg.watchdog.tBoot * 1000000, firstHeartbeat := true, openRecord := false }
    link.rxFrom := s.clock.now
    note.statusPart2 := false } := by
  rw [enterBoot, startSupplyFilter, beginPhase_eq]
  simp only [out, if_false, sec]

/-- Settles O8: the rows' tests are the spans' own, and BOOT is entered from POWER_ON and from RESTART. -/
theorem powerGoodBringsBoot : Obligations.PowerGoodBringsBoot := by
  refine ⟨fun s hp => ⟨fun low => ?_, fun high => ?_⟩, fun s => ⟨fun ⟨hp, phase⟩ ran => ?_, fun ⟨hp, phase⟩ ran => ?_⟩⟩
  · simp only [exec, execPwrgoodRise, low, Bool.false_eq_true, if_false, whenOn, hp, if_true, pwrgoodRises]
  · simp only [exec, execPwrgoodFall, high, if_true, whenOn, hp, pwrgoodFalls, watchesSupply_iff]
  · rw [← enterBoot_eq (by rw [phase]; exact fun h => Phase.noConfusion h)]
    exact whenOn_test_pos hp ((stabilityDue_iff s).mpr ⟨phase, ran⟩)
  · rw [← enterBoot_eq (by rw [phase]; exact fun h => Phase.noConfusion h)]
    exact whenOn_test_pos hp ((resetPulseDue_iff s).mpr ⟨phase, ran⟩)

/-! ## The expiries (R12 to R15, R113) -/

theorem exec_pwrgoodWaitExpiry {s : State} (hp : s.powered = true) (phase : s.ctl.phase = .powerOn) (ran : HasRun s.ctl.wait 2000000 s) :
    exec .pwrgoodWaitExpiry s = .next (request .supplyFail { s with ctl.wait := none, ctl.stability := none }) := by
  unfold exec execPwrgoodWaitExpiry
  exact whenOn_test_pos hp ((waitDue_iff s).mpr ⟨phase, ran⟩)

theorem exec_supplyLossFilterExpiry {s : State} (hp : s.powered = true) (phase : s.ctl.phase ∈ [Phase.boot, .run, .restart])
    (ran : HasRun s.ctl.supplyLoss 50000 s) :
    exec .supplyLossFilterExpiry s = .next (request .supplyLoss { s with ctl.supplyLoss := none }) := by
  unfold exec execSupplyLossFilterExpiry
  exact whenOn_test_pos hp ((supplyLossDue_iff s).mpr ⟨phase, ran⟩)

theorem exec_deadlineExpiry {s : State} {c : RestartCause} (hp : s.powered = true) (cause : deadlineCause s.sup.deadline = some c)
    (due : s.sup.expiry ≤ s.clock.now) : exec .deadlineExpiry s = .next (request c { s with sup.deadline := .stopped }) := by
  unfold exec execDeadlineExpiry
  have expired : deadlineDue s = true := by simp [deadlineDue, cause, due]
  simp only [whenOn_of_powered hp, expired, if_true, cause]

theorem exec_deadlineExpiry_of_not_running {s : State} (h : s.sup.deadline = .stopped ∨ s.sup.deadline = .suspended) :
    exec .deadlineExpiry s = .next s := by
  unfold exec execDeadlineExpiry
  refine whenOn_test_neg ?_
  rcases h with h | h <;> simp [deadlineDue, deadlineCause, h]

/-- An action from RUN that leads to RESTART is the entry to it. -/
theorem carryOut_of_restart {a : RestartAction} {s : State} (run : s.ctl.phase = .run) (entered : (carryOut a s).ctl.phase = .restart) :
    carryOut a s = enterRestart s := by
  cases a
  case reset => simp [carryOut, run]
  all_goals simp [carryOut, run] at entered

theorem request_of_restart {c : RestartCause} {s : State} (run : s.ctl.phase = .run) (entered : (request c s).ctl.phase = .restart) :
    ∃ r, request c s = enterRestart (addRecord r s) := by
  have taken : takesRequest c s.ctl.phase = true := by rw [run]; rfl
  simp only [request, taken, if_true] at entered ⊢
  exact ⟨_, carryOut_of_restart (by exact run) entered⟩

theorem addRecord_getLast? (r : RestartRecord) (s : State) : (addRecord r s).sup.history.getLast? = some r := by
  rw [addRecord_eq_drop]
  simp only [List.getLast?_drop, List.length_append, List.length_singleton, List.getLast?_concat]
  exact if_neg (by omega)

theorem enterPowerCycle_history (s : State) : (enterPowerCycle s).sup.history = s.sup.history :=
  congrArg (fun t => t.sup.history) (enterPowerCycle_off s).2.1

/-- A SUPPLY_LOSS that arrives in RESTART (R118, R119). -/
theorem request_supplyLoss_in_restart {s : State} (restart : s.ctl.phase = .restart) :
    (request .supplyLoss s).ctl.phase = .powerCycle
      ∧ ((request .supplyLoss s).sup.history.getLast?).map (fun r => (r.cause, r.action, r.phaseLeft))
          = some (.supplyLoss, .powerCycle, .restart) := by
  have action : chooseAction .supplyLoss s = .powerCycle := by simp [chooseAction, restart]
  have taken : request .supplyLoss s = enterPowerCycle (addRecord (recordOf .supplyLoss .powerCycle s) s) := by
    rw [request_of_not_ignored (by simp [Ignored, restart]), action, carryOut_powerCycle_eq]
    exact if_pos (by simp [addRecord, restart])
  rw [taken, enterPowerCycle_history, addRecord_getLast?]
  exact ⟨enterPowerCycle_phase _, congrArg some (Prod.ext rfl (Prod.ext rfl restart))⟩

theorem supplyLoss_follows {s : State} {r : RestartRecord} (hp : s.powered = true) (low : s.pins.pwrgood = false)
    (ran : HasRun s.ctl.supplyLoss 50000 s) :
    Nexts (exec .supplyLossFilterExpiry (enterRestart (addRecord r s))) fun t => t.ctl.phase = .powerCycle
      ∧ (t.sup.history.getLast?).map (fun r => (r.cause, r.action, r.phaseLeft)) = some (.supplyLoss, .powerCycle, .restart) := by
  have kept : (enterRestart (addRecord r s)).ctl.supplyLoss = s.ctl.supplyLoss :=
    (enterRestart_timers _).2.trans ((if_neg (by simp [addRecord, low])).trans (if_pos ran))
  have now := enteredAs_now (enteredAs_of_begun (enterRestart_begun (addRecord r s)))
  have phase := enterRestart_phase (addRecord r s)
  have due : HasRun (enterRestart (addRecord r s)).ctl.supplyLoss 50000 (enterRestart (addRecord r s)) := by
    rw [kept, HasRun, now]
    exact ran
  exact ⟨_, exec_supplyLossFilterExpiry ((enterRestart_powered _).trans hp) (by simp) due, request_supplyLoss_in_restart phase⟩

/-- Settles O11: each expiry is its request, and a filter that has run is kept at the entry to RESTART. -/
theorem expiriesThatRequestARestart : Obligations.ExpiriesThatRequestARestart := by
  refine fun s => ⟨fun ⟨hp, phase⟩ ran => exec_pwrgoodWaitExpiry hp phase ran, exec_supplyLossFilterExpiry,
    fun hp state due => exec_deadlineExpiry hp (by rw [state]; rfl) due, fun hp state due => exec_deadlineExpiry hp (by rw [state]; rfl) due,
    fun _ => exec_deadlineExpiry_of_not_running, fun ⟨hp, run⟩ state due low ran => ?_⟩
  refine ⟨_, exec_deadlineExpiry hp (c := .heartbeatTimeout) (by rw [state]; rfl) due, fun entered => ?_⟩
  obtain ⟨r, restarted⟩ := request_of_restart (by exact run) entered
  rw [restarted]
  exact supplyLoss_follows hp low ran

end Sys2Proof.Machine
end

section
/-! The commands of the restart supervisor: the suspension, the restart arm and RESTART, and SET_WATCHDOG. -/

namespace Sys2Proof.Machine

/-! ## Results and replies -/

theorem clampedIf_code (b : Bool) : (clampedIf b).code = if b then 0x01 else 0x00 := by cases b <;> rfl

/-- A code that says CLAMPED where a proposition, decided, says that something was. -/
theorem clampedIf_decide_code (p q : Prop) [Decidable p] [Decidable q] (h : p ↔ ¬ q) : (clampedIf (decide p)).code = if q then 0x00 else 0x01 := by
  by_cases hq : q
  · rw [if_pos hq, clampedIf_code, decide_eq_false (fun hp => h.mp hp hq)]
    rfl
  · rw [if_neg hq, clampedIf_code, decide_eq_true (h.mpr hq)]
    rfl

/-- A code that says CLAMPED where the values in force differ from those asked for. -/
theorem clampedIf_bne_code {α : Type} [BEq α] [LawfulBEq α] (x y : α) (q : Prop) [Decidable q] (h : x = y ↔ q) :
    (clampedIf (x != y)).code = if q then 0x00 else 0x01 := by
  by_cases hq : q
  · rw [if_pos hq, clampedIf_code, h.mpr hq, bne_self_eq_false]
    rfl
  · rw [if_neg hq, clampedIf_code, bne_iff_ne.mpr (fun same => hq (h.mp same))]
    rfl

/-! ## The suspension (R114, R115) -/

/-- The stretch start that a SUSPEND_WATCHDOG keeps, or begins now. -/
theorem stretchStart_eq (d : DeadlineState) (x : Option Suspension) (now : Nat) :
    (match d, x with
      | .suspended, some x => x.start
      | _, _ => now) = if d = .suspended then (x.map Suspension.start).getD now else now := by
  cases d <;> cases x <;> rfl

/-- The reply to a SUSPEND_WATCHDOG for `asked` seconds in a stretch that began at `start`. -/
def suspendReply (asked : Nat) (s : State) (start : Nat) : State :=
  let d := clampN 1 3600 asked
  let e := min (s.clock.now + sec d) (start + sec 3600)
  reply 0x59 (clampedIf (decide (d ≠ asked ∨ e ≠ s.clock.now + sec d))) (be16 (secondsLeft e s.clock.now))
    (taken { s with sup.deadline := .suspended, sup.suspension := some { start := start, expiry := e } })

theorem exec_suspendWatchdog (x y : Byte) {s : State} (h : TakesCommands s) (run : s.ctl.phase = .run) :
    let asked := x.toNat * 256 + y.toNat
    let d := max 1 (min 3600 asked)
    let start := if s.sup.deadline = .suspended then (s.sup.suspension.map Suspension.start).getD s.clock.now else s.clock.now
    let e := min (s.clock.now + d * 1000000) (start + 3600000000)
    exec (.suspendWatchdog [x, y]) s = .next
      (replied 0x59 ((if d = asked ∧ e = s.clock.now + d * 1000000 then 0x00 else 0x01) :: be16 ((e - s.clock.now + 999999) / 1000000))
        { s with sup.deadline := .suspended, sup.suspension := some { start := start, expiry := e } }) := by
  intro asked d start e
  have starts : (match s.sup.deadline, s.sup.suspension with
      | .suspended, some x => x.start
      | _, _ => s.clock.now) = start := stretchStart_eq ..
  have code : (clampedIf (decide (d ≠ asked ∨ e ≠ s.clock.now + d * 1000000))).code
      = if d = asked ∧ e = s.clock.now + d * 1000000 then 0x00 else 0x01 := clampedIf_decide_code _ _ (by rw [not_and_or])
  refine (whenOn_commandArrives h _).trans (congrArg _ ?_)
  have takes : cmdSuspendWatchdog [x, y] (taken s) =
      reply 0x59 (clampedIf (decide (d ≠ asked ∨ e ≠ s.clock.now + d * 1000000))) (be16 (secondsLeft e s.clock.now))
        (taken { s with sup.deadline := .suspended, sup.suspension := some { start := start, expiry := e } }) := by
    simp only [cmdSuspendWatchdog, taken_ctl, run, List.length_cons, List.length_nil, ne_eq, not_true_eq_false, if_false]
    exact congrArg (suspendReply asked s) starts
  rw [takes, reply_taken, code]
  rfl

theorem exec_resumeWatchdog {s : State} (h : TakesCommands s) (run : s.ctl.phase = .run) :
    exec (.resumeWatchdog []) s = .next (replied 0x5A [0x00]
      (if s.sup.deadline = .suspended then
        { s with sup.deadline := .heartbeat, sup.suspension := none, sup.expiry := s.clock.now + s.cfg.watchdog.tHb * 1000000 }
       else s)) := by
  refine (whenOn_commandArrives h _).trans (congrArg _ ?_)
  by_cases suspended : s.sup.deadline = .suspended
  · have deadline : (taken s).sup.deadline = .suspended := suspended
    simp only [cmdResumeWatchdog, taken_ctl, run, suspended, deadline, List.length_nil, ne_eq, not_true_eq_false, if_false, if_true]
    exact reply_taken 0x5A .ok []
      { s with sup.deadline := .heartbeat, sup.suspension := none, sup.expiry := s.clock.now + s.cfg.watchdog.tHb * 1000000 }
  · have deadline : (taken s).sup.deadline ≠ .suspended := suspended
    simp only [cmdResumeWatchdog, taken_ctl, run, suspended, deadline, List.length_nil, ne_eq, not_true_eq_false, if_false]
    exact reply_taken 0x5A .ok [] s

theorem exec_suspension_wrongPhase {s : State} (h : TakesCommands s) (out : s.ctl.phase ≠ .run) :
    exec (.resumeWatchdog []) s = .next (replied 0x5A [0x14] s)
      ∧ ∀ x y : Byte, exec (.suspendWatchdog [x, y]) s = .next (replied 0x59 [0x14] s) := by
  refine ⟨(whenOn_commandArrives h _).trans (congrArg _ ?_), fun x y => (whenOn_commandArrives h _).trans (congrArg _ ?_)⟩
  · simp only [cmdResumeWatchdog, taken_ctl, out, List.length_nil, ne_eq, not_true_eq_false, not_false_eq_true, if_false, if_true]
    exact refuse_taken 0x5A .wrongPhase s
  · simp only [cmdSuspendWatchdog, taken_ctl, out, List.length_cons, List.length_nil, ne_eq, not_true_eq_false, not_false_eq_true, if_false,
      if_true]
    exact refuse_taken 0x59 .wrongPhase s

theorem exec_suspensionExpiry {x : Suspension} {s : State} (hp : s.powered = true) (suspended : s.sup.deadline = .suspended)
    (held : s.sup.suspension = some x) (due : x.expiry ≤ s.clock.now) :
    exec .suspensionExpiry s = .next (settle (raise .suspendExpired (endSuspension x.expiry s))) := by
  unfold exec execSuspensionExpiry
  have expired : suspensionDue s = true := (suspensionDue_iff s).mpr ⟨suspended, x, held, due⟩
  simp only [whenOn_of_powered hp, expired, if_true, held]

/-- Settles O13, by the commands and the expiry one by one. -/
theorem watchdogSuspended : Obligations.WatchdogSuspended := by
  refine ⟨fun x y s h run => exec_suspendWatchdog x y h run, fun s h run suspended => ?_, fun s h run beats => ?_,
    fun s h out => exec_suspension_wrongPhase h out, fun x s hp suspended held due => ?_⟩
  · rw [exec_resumeWatchdog h run, if_pos suspended]
  · rw [exec_resumeWatchdog h run, if_neg (by rw [beats]; exact fun h => DeadlineState.noConfusion h)]
  · exact ⟨_, exec_suspensionExpiry hp suspended held due, settle_deliveries _⟩

/-! ## The restart arm and RESTART (R116, R117) -/

theorem exec_armRestart {s : State} (h : TakesCommands s) :
    exec (.armRestart []) s = .next { replied 0x5B [0x00] s with sup.arm := some (s.clock.now + 1000000) } := by
  refine (whenOn_commandArrives h _).trans (congrArg _ ?_)
  simp only [cmdArmRestart, List.length_nil, ne_eq, not_true_eq_false, if_false, reply_eq]
  rfl

theorem exec_armExpiry {e : Nat} {s : State} (hp : s.powered = true) (armed : s.sup.arm = some e) :
    exec .armExpiry s = .next (if e ≤ s.clock.now then { s with sup.arm := none } else s) := by
  unfold exec execArmExpiry
  simp only [whenOn_of_powered hp, armDue, armed, decide_eq_true_eq]

/-- RESTART, judged in its order. -/
theorem exec_restart {s : State} (h : TakesCommands s) (kind : Byte) :
    exec (.restart [kind]) s = .next
      (if 1 < kind.toNat then replied 0x5C [0x13] s
       else if s.sup.arm = none then replied 0x5C [0x15] s
       else if s.ctl.phase ∉ [Phase.boot, .run] then replied 0x5C [0x14] s
       else request (if kind = 0 then .commandedReset else .commandedCycle) (replied 0x5C [0x00] s)) := by
  have released (p : Phase) : (!releasedPhase p) = true ↔ p ∉ [Phase.boot, .run] := by cases p <;> decide
  have unarmed : (!s.sup.arm.isSome) = true ↔ s.sup.arm = none := by cases s.sup.arm <;> simp
  have zero : kind.toNat = 0 ↔ kind = 0 := by rw [← BitVec.toNat_inj]; rfl
  refine (whenOn_commandArrives h _).trans (congrArg _ ?_)
  simp only [cmdRestart, taken_ctl, released, unarmed, refuse_taken, reply_taken, u8At, List.getD_cons_zero, List.length_cons, List.length_nil,
    ne_eq, not_true_eq_false, zero_add, if_false, zero]
  rfl

/-- RESTART taken in BOOT or RUN enters its phase and loses its reply with the queue (R89, R117). -/
theorem request_commanded {s : State} (up : s.ctl.phase ∈ [Phase.boot, .run]) :
    ((request .commandedReset s).ctl.phase = .restart ∧ (request .commandedReset s).link.up = [])
      ∧ ((request .commandedCycle s).ctl.phase = .powerCycle ∧ (request .commandedCycle s).link.up = []) := by
  have allowed (a : RestartAction) (c : RestartCause) : ¬ Ignored c s.ctl.phase := by
    rcases List.mem_pair.mp up with h | h <;> simp [Ignored, h]
  have out : s.ctl.phase ∈ [Phase.powerOn, .boot, .run] ∧ s.ctl.phase ∈ [Phase.powerOn, .boot, .run, .restart] := by
    rcases List.mem_pair.mp up with h | h <;> simp [h]
  refine ⟨?_, ?_⟩
  · rw [request_of_not_ignored (allowed .reset _), chooseAction, carryOut_reset_eq, if_pos (by exact out.1)]
    exact ⟨enterRestart_phase _, enterRestart_up _⟩
  · rw [request_of_not_ignored (allowed .powerCycle _), chooseAction, carryOut_powerCycle_eq, if_pos (by exact out.2)]
    exact ⟨enterPowerCycle_phase _, enterOff_up _ _⟩

/-- Settles O14: the arm, its expiry, and RESTART by the chain of its tests. -/
theorem armedRestart : Obligations.ArmedRestart := by
  refine ⟨fun s => ⟨exec_armRestart, fun e hp armed => ⟨fun due => ?_, fun early => ?_⟩, fun h p length => ?_, fun h p length => ?_⟩,
    fun kind s h => ⟨fun bad => ?_, fun good unarmed => ?_, fun good armed out => ?_, fun good armed up => ?_⟩⟩
  · rw [exec_armExpiry hp armed, if_pos due]
  · rw [exec_armExpiry hp armed, if_neg (Nat.not_le.mpr early)]
  · refine (whenOn_commandArrives h _).trans (congrArg _ ?_)
    rw [cmdArmRestart, if_pos (fun none => length (List.length_eq_zero_iff.mp none))]
    exact refuse_taken 0x5B .badLength s
  · refine (whenOn_commandArrives h _).trans (congrArg _ ?_)
    rw [cmdRestart, if_pos length]
    exact refuse_taken 0x5C .badLength s
  · rw [exec_restart h, if_pos bad]
  · rw [exec_restart h, if_neg (Nat.not_lt.mpr good), if_pos unarmed]
  · rw [exec_restart h, if_neg (Nat.not_lt.mpr good), if_neg (Option.isSome_iff_ne_none.mp armed), if_pos out]
  · rw [exec_restart h, if_neg (Nat.not_lt.mpr good), if_neg (Option.isSome_iff_ne_none.mp armed), if_neg (not_not.mpr up)]
    obtain ⟨reset, cycle⟩ := request_commanded (s := replied 0x5C [0x00] s) up
    refine ⟨_, rfl, rfl, ?_⟩
    split
    · exact reset
    · exact cycle

/-! ## SET_WATCHDOG (R120) -/

theorem boolOfCode_eq_none {n : Nat} (h : 1 < n) : boolOfCode n = none := by
  match n with
  | 0 | 1 => omega
  | _ + 2 => rfl

theorem boolOfCode_flag {b : Byte} (h : b.toNat ≤ 1) : boolOfCode b.toNat = some (b == 1) ∧ flagByte (b == 1) = b := by
  have two : b = 0 ∨ b = 1 := by
    rcases Nat.le_one_iff_eq_zero_or_eq_one.mp h with h | h
    · exact .inl (BitVec.eq_of_toNat_eq h)
    · exact .inr (BitVec.eq_of_toNat_eq h)
  rcases two with rfl | rfl <;> exact ⟨rfl, rfl⟩

theorem clampWatchdog_eq_iff (w : WatchdogParams) :
    clampWatchdog w = w ↔ max 10 (min 1800 w.tBoot) = w.tBoot ∧ max 1 (min 600 w.tHb) = w.tHb ∧ max 1 (min 240 w.window) = w.window
      ∧ max 1 (min 4 w.k) = w.k ∧ max 1 (min 4 w.m) = w.m := by
  obtain ⟨tBoot, tHb, check, window, k, m⟩ := w
  simp only [clampWatchdog, clampN, WatchdogParams.mk.injEq, true_and]

theorem not_and_or_or {p q r : Prop} : ¬ (p ∧ q ∧ r) ↔ ¬ p ∨ ¬ q ∨ ¬ r := by
  rw [not_and_or, not_and_or]

/-- Settles O15: the clamped values are put in force as they are answered. -/
theorem setWatchdog : Obligations.SetWatchdog := by
  intro b0 b1 h0 h1 tk w k m s h
  refine ⟨fun bad => ?_, fun good => ?_⟩
  · refine (whenOn_commandArrives h _).trans (congrArg _ ?_)
    simp only [cmdSetWatchdog, u8At, List.getD_cons_succ, List.getD_cons_zero, boolOfCode_eq_none bad]
    exact refuse_taken 0x58 .badValue s
  · refine (whenOn_commandArrives h _).trans (congrArg _ ?_)
    obtain ⟨check, flag⟩ := boolOfCode_flag good
    let asked : WatchdogParams :=
      { tBoot := b0.toNat * 256 + b1.toNat, tHb := h0.toNat * 256 + h1.toNat, tokenCheck := tk == 1, window := w.toNat, k := k.toNat, m := m.toNat }
    let new := clampWatchdog asked
    let old := s.cfg.watchdog
    have takes : cmdSetWatchdog [b0, b1, h0, h1, tk, w, k, m] (taken s) = reply 0x58 (clampedIf (new != asked)) (writeWatchdog new)
        (taken { s with
          cfg.watchdog := new
          sup.floor := if decide (new.window ≠ old.window ∨ new.k ≠ old.k ∨ new.m ≠ old.m) then s.clock.uptime else s.sup.floor }) := by
      simp only [cmdSetWatchdog, u8At, List.getD_cons_succ, List.getD_cons_zero, check]
      rfl
    rw [takes, reply_taken, clampedIf_bne_code new asked _ (clampWatchdog_eq_iff asked)]
    have floor : (if decide (new.window ≠ old.window ∨ new.k ≠ old.k ∨ new.m ≠ old.m) then s.clock.uptime else s.sup.floor)
        = if new.window = old.window ∧ new.k = old.k ∧ new.m = old.m then s.sup.floor else s.clock.uptime := by
      simp only [decide_eq_true_eq, ne_eq, ← not_and_or_or, ite_not]
    rw [floor]
    have values : writeWatchdog new = be16 new.tBoot ++ be16 new.tHb ++ [tk, byte new.window, byte new.k, byte new.m] :=
      congrArg (fun b : Byte => be16 new.tBoot ++ be16 new.tHb ++ [b, byte new.window, byte new.k, byte new.m]) flag
    rw [values]
    rfl

end Sys2Proof.Machine
end

section
/-! The brown-out, and the records of the samples: the gate record, the overheat warning and dwell, the cooling-degraded record, the limited run. -/

namespace Sys2Proof.Machine

/-! ## The brown-out (R1, R155) -/

theorem nexts_of_unpowered {u s : State} (hp : u.powered = false) (pins : u = { s with pins := u.pins }) (f : State → State) :
    Nexts (whenOn u f) fun t => t = { s with pins := t.pins } :=
  ⟨u, whenOn_of_unpowered hp f, pins⟩

theorem setComparator_eq (c : ChannelId) (x : Comparator) (b : Bool) (s : State) :
    setComparator c x b s = { s with pins := (setComparator c x b s).pins } := by
  cases c <;> cases x <;> rfl

theorem setRdyIn_eq (p : PortId) (b : Bool) (s : State) : setRdyIn p b s = { s with pins := (setRdyIn p b s).pins } := by
  cases p <;> rfl

/-- Below the operating range no row but the power-on reset changes more than the pins. -/
theorem exec_unpowered (c : Instr) {s : State} (hp : s.powered = false) (reset : ∀ r, c ≠ .powerOnReset r) :
    Nexts (exec c s) fun t => t = { s with pins := t.pins } := by
  have stays : Nexts (.next s) fun t => t = { s with pins := t.pins } := ⟨s, rfl, rfl⟩
  unfold exec
  cases c
  case powerOnReset r => exact absurd rfl (reset r)
  case pwrgoodRise =>
    change Nexts (execPwrgoodRise s) _
    unfold execPwrgoodRise
    split
    · exact stays
    · exact nexts_of_unpowered (u := { s with pins.pwrgood := true }) hp rfl _
  case pwrgoodFall =>
    change Nexts (execPwrgoodFall s) _
    unfold execPwrgoodFall
    split
    · exact nexts_of_unpowered (u := { s with pins.pwrgood := false }) hp rfl _
    · exact stays
  case heatInhAssert =>
    change Nexts (execHeatInhAssert s) _
    unfold execHeatInhAssert
    split
    · exact stays
    · exact nexts_of_unpowered (u := { s with pins.heatInhLow := true }) hp rfl _
  case heatInhRise =>
    change Nexts (execHeatInhRise s) _
    unfold execHeatInhRise
    split
    · exact nexts_of_unpowered (u := { s with pins.heatInhLow := false }) hp rfl _
    · exact stays
  case comparatorChange c x b =>
    exact nexts_of_unpowered ((congrArg State.powered (setComparator_eq c x b s)).trans hp) (setComparator_eq c x b s) _
  case rdyInChange p b => exact nexts_of_unpowered ((congrArg State.powered (setRdyIn_eq p b s)).trans hp) (setRdyIn_eq p b s) _
  all_goals exact nexts_of_unpowered hp rfl _

theorem ledLit_of_unpowered {s : State} (hp : s.powered = false) : ledLit s = false := by rw [ledLit, hp, Bool.false_and]

/-- Settles O5. -/
theorem brownOutHoldsTheLines : Obligations.BrownOutHoldsTheLines := by
  refine ⟨fun s hp => ⟨supplyLost s, whenOn_of_powered hp _, ?_⟩, fun c s hp reset => exec_unpowered c hp reset⟩
  rw [supplyLost_eq]
  exact ⟨rfl, rfl, rfl, ledLit_of_unpowered rfl, rfl, rfl, rfl, rfl⟩

/-! ## The gate record (R35, R36) -/

theorem gateTest_eq (s : State) :
    gateTest s = (s.sens.effBoard.any (fun b => s.cfg.sensing.gBoard ≤ b) && s.sens.effDisplay.any (fun d => s.cfg.sensing.gDisp ≤ d)) := by
  unfold gateTest
  cases s.sens.effBoard <;> cases s.sens.effDisplay <;> simp

/-- Settles O19, by the branches of the record. -/
theorem gateRecord : Obligations.GateRecord := by
  intro s
  simp only [← gateTest_eq]
  refine ⟨fun fails unsatisfied => ?_, fun fails satisfied => ?_, fun holds unsatisfied => ?_, fun holds satisfied complete => ?_,
    fun holds satisfied incomplete short => ?_, fun holds satisfied incomplete reached => ?_⟩
  · simp only [updateGate, fails, unsatisfied, Bool.false_eq_true, if_false]
  · simp only [updateGate, fails, satisfied, Bool.false_eq_true, if_false, if_true]
  · simp only [updateGate, holds, unsatisfied, Bool.not_false, if_true]
  · simp only [updateGate, holds, satisfied, complete, Bool.not_true, Bool.false_eq_true, if_false, if_true]
  · simp only [updateGate, holds, satisfied, incomplete, Nat.not_le.mpr short, Bool.not_true, Bool.false_eq_true, if_false, if_true]
  · have completes : updateGate s =
        completeSoak { s with sens.gate := { s.sens.gate with soakMs := s.sens.gate.soakMs + 250, span := s.cfg.sensing.tSoak } } := by
      simp only [updateGate, holds, satisfied, incomplete, reached, Bool.not_true, Bool.false_eq_true, if_false, if_true]
    rw [completes]
    refine ⟨fun preheat => completeSoak_entered _ preheat, fun other => ?_⟩
    simp only [completeSoak, other, if_false]

/-! ## The overheat warning and the overheat dwell (R19, R20) -/

theorem atTrip_eq (s : State) : atTrip s = s.sens.effBoard.any (fun b => s.cfg.sensing.tTrip ≤ b) := by
  unfold atTrip
  cases s.sens.effBoard <;> rfl

theorem overheat_phase {s : State} (other : s.ctl.phase ≠ .cooldown) : (overheat s).ctl.phase = .cooldown := by
  have taken : ¬ Ignored .overheat s.ctl.phase := by simp [Ignored]
  have listed : s.ctl.phase ∈ [Phase.preheat, .powerOn, .boot, .run, .restart, .powerCycle, .lockout] := by
    cases h : s.ctl.phase <;> simp_all
  rw [overheat, request_of_not_ignored (by exact taken), chooseAction, carryOut_cooldown_eq, if_pos (by exact listed)]
  exact enterCooldown_phase _

/-- Settles O20, by the branches of the two records. -/
theorem overheatWarningAndDwell : Obligations.Overheat := by
  refine ⟨fun s => ⟨fun none => ?_, fun b board => ⟨fun clear warm => ?_, fun clear cool => ?_, fun raised cool => ?_, fun raised warm => ?_⟩⟩,
    fun s => ?_⟩
  · simp only [updateWarning, none]
  · simp only [updateWarning, board, clear, warm, Bool.false_eq_true, if_false, if_true]
    rfl
  · simp only [updateWarning, board, clear, not_le.mpr cool, Bool.false_eq_true, if_false]
  · simp only [updateWarning, board, raised, cool, if_true]
  · simp only [updateWarning, board, raised, not_lt.mpr warm, if_true, if_false]
  · simp only [← atTrip_eq]
    refine ⟨fun off => ?_, fun other above short => ?_, fun other above reached => ?_, fun hp other reached => ?_⟩
    · have rests : (decide (s.ctl.phase = .cooldown) || !atTrip s) = true := by simpa using off
      rw [updateDwell, if_pos rests]
    · simp only [updateDwell, other, above, decide_false, Bool.not_true, Bool.or_self, Bool.false_eq_true, if_false, if_neg (show ¬ 10000 ≤ s.sens.dwellMs + 250 by omega)]
    · have requested : updateDwell s = overheat s := by
        simp only [updateDwell, other, above, reached, decide_false, Bool.not_true, Bool.or_self, Bool.false_eq_true, if_false]
        rfl
      exact ⟨requested, requested ▸ overheat_phase other⟩
    · unfold exec execOverheatDwellExpiry
      rw [whenOn_ite_pos hp ⟨other, by omega⟩, settle_of_not_run (by rw [overheat_phase other]; exact fun h => Phase.noConfusion h)]
      rfl

/-! ## The cooling-degraded record (R56) -/

/-- The cooling-degraded record where both readings are there, by the bands of their difference. -/
theorem updateCooling_of_readings {s : State} {b a : Int} (board : s.sens.effBoard = some b) (air : s.sens.effAir = some a) :
    updateCooling s =
      if s.cfg.sensing.deltaMax < b - a ∧ (s.chan.fan.ch.applied = 64 ∨ hasCondition stallBit s.chan.fan.ch = true) then
        raiseIf (decide (119750 ≤ s.chan.cooling.setMs) && !s.chan.cooling.degraded) .coolingDegraded { s with chan.cooling :=
          { degraded := s.chan.cooling.degraded || decide (119750 ≤ s.chan.cooling.setMs), setMs := min 120000 (s.chan.cooling.setMs + 250),
            clearMs := 0 } }
      else if b - a < s.cfg.sensing.deltaMax - 20 ∧ hasCondition stallBit s.chan.fan.ch = false then
        { s with chan.cooling :=
          { degraded := s.chan.cooling.degraded && decide (s.chan.cooling.clearMs < 119750), setMs := 0,
            clearMs := min 120000 (s.chan.cooling.clearMs + 250) } }
      else { s with chan.cooling := { s.chan.cooling with setMs := 0, clearMs := 0 } } := by
  have set : 120000 ≤ s.chan.cooling.setMs + 250 ↔ 119750 ≤ s.chan.cooling.setMs := by omega
  have clear : 120000 ≤ s.chan.cooling.clearMs + 250 ↔ ¬ s.chan.cooling.clearMs < 119750 := by omega
  simp only [updateCooling, board, air, set, clear]
  cases degraded : s.chan.cooling.degraded
  · by_cases ran : 119750 ≤ s.chan.cooling.setMs <;> simp [ran, raiseIf, setDegraded]
  · by_cases ran : s.chan.cooling.clearMs < 119750 <;> simp [ran, raiseIf]

/-- Settles O21, by the bands of BOARD over AIR. -/
theorem coolingDegraded : Obligations.CoolingDegraded := by
  intro s
  refine ⟨fun none => ?_, fun b a board air => ⟨fun hot full => ?_, fun cool spins => ?_, fun above below => ?_, fun hot part spins => ?_,
    fun cool stalls => ?_⟩, fun hp clear reached => ?_, fun hp degraded reached => ?_⟩
  · unfold updateCooling
    rcases none with none | none
    · simp only [none]
    · cases s.sens.effBoard <;> simp only [none]
  · rw [updateCooling_of_readings board air, if_pos ⟨hot, full⟩, raiseIf_eq]
    simp only [Bool.and_eq_true, decide_eq_true_eq, Bool.not_eq_true']
    rfl
  · rw [updateCooling_of_readings board air, if_neg (fun h => by omega), if_pos ⟨cool, spins⟩]
  · rw [updateCooling_of_readings board air, if_neg (fun h => by omega), if_neg (fun h => by omega)]
  · rw [updateCooling_of_readings board air, if_neg (fun h => h.2.elim part (by rw [spins]; exact Bool.false_ne_true)), if_neg (fun h => by omega)]
  · rw [updateCooling_of_readings board air, if_neg (fun h => by omega), if_neg (fun h => by rw [stalls] at h; exact absurd h.2 (by decide))]
  · unfold exec execCoolingDegradedSet
    exact ⟨_, whenOn_ite_pos hp ⟨clear, by omega⟩, settle_deliveries _⟩
  · unfold exec execCoolingDegradedClear
    exact whenOn_ite_pos hp ⟨degraded, by omega⟩

/-! ## Effective readings, failure and recovery (R30, R31, R33, R34) -/

theorem usable_or_of_valid {x : Sensor} {f : Int} (valid : x.state = .valid) (held : x.filtered = some f) (o : Option Int) :
    (usable x).or o = some f := by rw [usable, if_pos valid, held, Option.some_or]

theorem usable_or_substitute {x y : Sensor} (invalid : x.state ≠ .valid) (valid : y.state = .valid) : (usable x).or (usable y) = y.filtered := by
  rw [usable, if_neg invalid, Option.none_or, usable, if_pos valid]

theorem usable_or_none {x y : Sensor} (invalid : x.state ≠ .valid) (neither : y.state ≠ .valid) : (usable x).or (usable y) = none := by
  rw [usable, if_neg invalid, Option.none_or, usable, if_neg neither]

/-- An entry to FAILED, with SENSOR_FAULT (R30). -/
theorem updateSensor_failSensor (i : SensorId) {s : State} (entered : (sensorOf i s).state ≠ .failed) :
    updateSensor i (failSensor (sensorOf i s)) s =
      { setSensor i (failSensor (sensorOf i s)) s with note.pending := s.note.pending ||| 8#13 } := by
  have enters : enteredFailed (sensorOf i s) (failSensor (sensorOf i s)) = true := by simp [enteredFailed, failSensor, entered]
  rw [updateSensor, enters]
  cases i <;> rfl

theorem updateSensor_validSensor (i : SensorId) (t : Int) (s : State) :
    updateSensor i (validSensor t (sensorOf i s)) s = setSensor i (validSensor t (sensorOf i s)) s := by
  have stays : enteredFailed (sensorOf i s) (validSensor t (sensorOf i s)) = false := by simp [enteredFailed, validSensor]
  rw [updateSensor, stays]
  rfl

/-- Settles O18: the readings by substitution, and the two rows. -/
theorem sensorsFailAndRecover : Obligations.SensorsFailAndRecover := by
  refine ⟨fun s => ⟨rfl, fun x y eff listed => ?_⟩, fun i s hp => ⟨fun working third => ?_, fun r failed run low high => ?_⟩⟩
  · have formed : eff = (usable x).or (usable y) := by
      simp only [List.mem_cons, Prod.mk.injEq, List.not_mem_nil, or_false] at listed
      rcases listed with ⟨rfl, rfl, rfl⟩ | ⟨rfl, rfl, rfl⟩ | ⟨rfl, rfl, rfl⟩ <;> rfl
    rw [formed]
    exact ⟨fun f valid held => usable_or_of_valid valid held _, usable_or_substitute, usable_or_none⟩
  · unfold exec execSensorFailed
    refine ⟨_, whenOn_ite_pos hp ⟨working, by omega⟩, ?_⟩
    rw [updateSensor_failSensor i working]
    exact settle_deliveries _
  · have kind : sampleKind r = .valid := by rw [sampleKind, if_neg (by omega), if_pos high]
    unfold exec execSensorRecovered
    refine (whenOn_ite_pos hp ⟨failed, by omega, kind⟩).trans ?_
    rw [updateSensor_validSensor]
    rfl

/-! ## The stages of an allocation and the limited run (R62 to R66) -/

theorem isLimited_iff (i : AllocInput) :
    isLimited i = true ↔
      (allocationOf i).fanGrant < i.dF ∨ (allocationOf i).h1Grant < i.d1 ∨ (allocationOf i).h0Grant < i.d0 ∨ limitOf i < i.lReq := by
  simp only [isLimited, Bool.or_eq_true, decide_eq_true_eq, or_assoc]

theorem ceilingOf_lt_iff {i : AllocInput} (sound : i.degraded = false) : ceilingOf i < i.lReq ↔ limitOf i < i.lReq := by
  simp only [ceilingOf, sound, Bool.false_eq_true, if_false]
  omega

theorem budgetLimit_le (avail pBl : Nat) : budgetLimit avail pBl ≤ 255 := by
  unfold budgetLimit
  split
  · exact le_rfl
  · exact min_le_left ..

/-- Settles O22: the stages by their definition, and the limited run by its count. -/
theorem budgetStages : Obligations.BudgetStages := by
  refine ⟨fun q reserve dF d1 d0 lReq degraded => ?_, fun limited s => ⟨fun enough => ?_, fun short below => ?_, fun short last => ?_, fun short full => ?_⟩,
    fun q reserve dF d1 d0 lReq => ?_, fun q reserve dF d1 d0 lReq degraded => isLimited_iff _, fun s hp last => ?_⟩
  · have total := allocationOf_total_le { params := q, reserve := reserve, dF := dF, d1 := d1, d0 := d0, lReq := lReq, degraded := degraded }
    exact ⟨rfl, rfl, rfl, rfl, rfl, rfl, rfl, rfl, rfl, total, grantOf_le .., grantOf_le .., grantOf_le .., min_le_left ..,
      (ceilingOf_le_limitOf _).trans (budgetLimit_le ..)⟩
  · rw [enough]
    rfl
  · have next : satInc 60 s.bud.limitedRun = s.bud.limitedRun + 1 := by rw [satInc]; omega
    have quiet : (s.bud.limitedRun + 1 == 60) = false := beq_false_of_ne (by omega)
    simp only [countLimited, short, if_true, next, quiet, Bool.false_and]
    rfl
  · simp only [countLimited, short, last]
    rfl
  · have held : ({ s with bud.limitedRun := 60 } : State) = s := by rw [← full]
    simp only [countLimited, short, full]
    exact held
  · intro i
    rw [isLimited_iff, ← ceilingOf_lt_iff rfl]
    rfl
  · unfold exec execBudgetLimited
    exact ⟨_, whenOn_ite_pos hp last, settle_deliveries _⟩

end Sys2Proof.Machine
end

section
/-! One sample: the three sensor records, and then the follow-ups in their order. The NOTICE tests between the follow-ups change deliveries
alone, and no follow-up reads what they change. -/

namespace Sys2Proof.Machine

/-! ## What a follow-up can do -/

/-- `s` with what the follow-ups of a sample change, the NOTICE tests among them. -/
def State.followedAs (s t : State) : State :=
  { s with
    clock.timeInPhase := t.clock.timeInPhase
    clock.phaseAt := t.clock.phaseAt
    lines := t.lines
    ctl := t.ctl
    sens.gate := t.sens.gate
    sens.warnRaised := t.sens.warnRaised
    sens.dwellMs := t.sens.dwellMs
    chan := t.chan
    bud := t.bud
    sup := t.sup
    link := { t.link with rateHigh := s.link.rateHigh }
    keys.queue := t.keys.queue
    keys.loss := t.keys.loss
    note.pending := t.note.pending
    note.outstanding := t.note.outstanding }

/-- `t` follows `s` in one sample: the frame, with SENSOR_FAULT pending as it was. -/
def Follows (s t : State) : Prop := t = s.followedAs t ∧ isPending .sensorFault t = isPending .sensorFault s

theorem Follows.refl (s : State) : Follows s s := ⟨rfl, rfl⟩

theorem Follows.trans {s t u : State} (h : Follows s t) (k : Follows t u) : Follows s u := by
  obtain ⟨first, pending⟩ := h
  obtain ⟨second, later⟩ := k
  refine ⟨?_, later.trans pending⟩
  have frame : t.followedAs u = s.followedAs u := by rw [first]; rfl
  exact second.trans frame

theorem Follows.of_entered {s t : State} (h : t = s.enteredAs t) : Follows s t := by
  refine ⟨by rw [h]; rfl, ?_⟩
  have pending : t.note.pending = s.note.pending ||| (t.note.pending &&& causeBit .budgetLimited) := congrArg (fun t => t.note.pending) h
  have other : (causeBit .budgetLimited).getLsbD (Cause.sensorFault.code - 1) = false := by decide
  rw [isPending, isPending, pending, BitVec.getLsbD_or, BitVec.getLsbD_and, other, Bool.and_false, Bool.or_false]

theorem Follows.of_delivered {s t : State} (h : SameButDeliveries s t) : Follows s t := by
  unfold SameButDeliveries at h
  exact ⟨by rw [h]; rfl, congrArg (fun t => t.note.pending.getLsbD (Cause.sensorFault.code - 1)) h⟩

theorem Follows.of_raise {c : Cause} (other : (causeBit c).getLsbD (Cause.sensorFault.code - 1) = false) (s : State) : Follows s (raise c s) := by
  refine ⟨rfl, ?_⟩
  rw [isPending, isPending, raise, BitVec.getLsbD_or, other, Bool.or_false]

theorem enterLockout_follows (s : State) : Follows s (enterLockout s) := .of_entered (enterOff_enteredAs .lockout s)

theorem enterPreheat_follows (s : State) : Follows s (enterPreheat s) := by
  have begun : Follows s (preheatBegun s) := .of_entered (preheatBegun_off s).2.1
  rw [enterPreheat_eq]
  split
  · exact begun.trans (.of_entered (enterPowerOn_enteredAs _))
  · exact begun

theorem enterCooldown_follows (s : State) : Follows s (enterCooldown s) := .of_entered (enterCooldown_off s).2.1

theorem cooldownExit_follows (s : State) : Follows s (cooldownExit s) := by
  unfold cooldownExit
  split
  · split
    · exact .refl s
    · split
      · split
        · exact enterLockout_follows s
        · exact enterPreheat_follows s
      · exact .refl s
  · exact .refl s

theorem completeSoak_follows (s : State) : Follows s (completeSoak s) := by
  have completed : Follows s { s with sens.gate.complete := true } := ⟨rfl, rfl⟩
  simp only [completeSoak]
  split
  · exact completed.trans (.of_entered (enterPowerOn_enteredAs _))
  · exact completed

theorem setGate_follows (g : Gate) (s : State) : Follows s { s with sens.gate := g } := ⟨rfl, rfl⟩

theorem updateGate_follows (s : State) : Follows s (updateGate s) := by
  simp only [updateGate]
  split
  · split
    · exact setGate_follows _ s
    · split
      · exact setGate_follows _ s
      · split
        · exact (setGate_follows _ s).trans (completeSoak_follows _)
        · exact setGate_follows _ s
  · split <;> exact setGate_follows _ s

theorem updateWarning_follows (s : State) : Follows s (updateWarning s) := by
  have set (b : Bool) : Follows s { s with sens.warnRaised := b } := ⟨rfl, rfl⟩
  unfold updateWarning
  split
  · exact .refl s
  · split
    · split
      · exact set false
      · exact .refl s
    · split
      · exact (set true).trans (.of_raise (by decide) _)
      · exact .refl s

theorem addRecord_follows (r : RestartRecord) (s : State) : Follows s (addRecord r s) := ⟨rfl, rfl⟩

theorem overheat_eq (s : State) :
    overheat s =
      carryOut .cooldown (addRecord (recordOf .overheat .cooldown { s with sens.dwellMs := 0 }) { s with sens.dwellMs := 0 }) := by
  rw [overheat, request_of_not_ignored (by simp [Ignored])]
  rfl

theorem overheat_follows (s : State) : Follows s (overheat s) := by
  have dwell : Follows s { s with sens.dwellMs := 0 } := ⟨rfl, rfl⟩
  refine dwell.trans ?_
  rw [overheat_eq, carryOut_cooldown_eq]
  refine (addRecord_follows (recordOf .overheat .cooldown { s with sens.dwellMs := 0 }) _).trans ?_
  split
  · exact enterCooldown_follows _
  · exact .refl _

theorem updateDwell_follows (s : State) : Follows s (updateDwell s) := by
  have set (n : Nat) : Follows s { s with sens.dwellMs := n } := ⟨rfl, rfl⟩
  unfold updateDwell
  split
  · exact set 0
  · split
    · exact overheat_follows s
    · exact set _

theorem updateCooling_follows (s : State) : Follows s (updateCooling s) := by
  have set (c : Cooling) (s : State) : Follows s { s with chan.cooling := c } := ⟨rfl, rfl⟩
  cases board : s.sens.effBoard with
  | none => simp only [updateCooling, board]; exact set _ s
  | some b =>
    cases air : s.sens.effAir with
    | none => simp only [updateCooling, board, air]; exact set _ s
    | some a =>
      rw [updateCooling_of_readings board air, raiseIf]
      split
      · split
        · exact (set _ s).trans (.of_raise (by decide) _)
        · exact set _ s
      · split <;> exact set _ s

/-! ## What a follow-up reads -/

/-- A step of the controller that neither reads nor hands on what the deliveries change, but where it empties it. -/
def IgnoresDeliveries (f : State → State) : Prop := ∀ s u : State, SameButDeliveries s u → SameButDeliveries (f s) (f u)

theorem IgnoresDeliveries.comp {f g : State → State} (h : IgnoresDeliveries f) (k : IgnoresDeliveries g) : IgnoresDeliveries (g ∘ f) :=
  fun s u same => k _ _ (h s u same)

theorem IgnoresDeliveries.of {f : State → State} (h : ∀ s u : State, SameButDeliveries (f s) (f (s.deliveredAs u))) : IgnoresDeliveries f := by
  intro s u same
  unfold SameButDeliveries at same
  rw [same]
  exact h s u

theorem sameToAllocate_of_delivered {s u : State} (same : SameButDeliveries s u) : SameToAllocate s u := by
  unfold SameButDeliveries at same
  rw [same]
  exact ⟨rfl, rfl, rfl, rfl, rfl, rfl, rfl, rfl, rfl, rfl⟩

theorem allocatedAs_alike {s u v w : State} (same : SameButDeliveries s u) (allocated : SameAllocated v w) :
    SameButDeliveries (s.allocatedAs v) (u.allocatedAs w) := by
  unfold SameButDeliveries at same ⊢
  obtain ⟨chan, bud, down, port, pending⟩ := allocated
  rw [same]
  simp only [State.allocatedAs, chan, bud, down, port, pending]
  rfl

theorem allocate_ignores (reserve : Bool) : IgnoresDeliveries (allocate reserve) := by
  intro s u same
  rw [allocate_allocatedAs reserve s, allocate_allocatedAs reserve u]
  exact allocatedAs_alike same (allocate_reads reserve (sameToAllocate_of_delivered same))

theorem beginPhase_ignores (p : Phase) : IgnoresDeliveries (fun s => stopSupervision (beginPhase p s)) :=
  .of fun s u => by
    rw [beginPhase_eq, beginPhase_eq]
    exact rfl

theorem offBegun_ignores (p : Phase) : IgnoresDeliveries (offBegun p) :=
  .of fun s u => by
    simp only [offBegun, powerOff_eq, assertReset_eq, beginPhase_eq]
    exact rfl

theorem enterOff_ignores (p : Phase) : IgnoresDeliveries (enterOff p) := (offBegun_ignores p).comp (allocate_ignores false)

theorem enterPowerOn_ignores : IgnoresDeliveries enterPowerOn := by
  intro s u same
  have allocated := (beginPhase_ignores .powerOn).comp (allocate_ignores true) s u same
  simp only [Function.comp_apply] at allocated
  rw [enterPowerOn, enterPowerOn]
  generalize allocate true (stopSupervision (beginPhase .powerOn s)) = v at allocated ⊢
  generalize allocate true (stopSupervision (beginPhase .powerOn u)) = w at allocated ⊢
  unfold SameButDeliveries at allocated ⊢
  rw [allocated]
  rfl

theorem enterCooldown_ignores : IgnoresDeliveries enterCooldown := by
  refine IgnoresDeliveries.comp (f := fun s => { s with ctl.originLockout := decide (s.ctl.phase = .lockout) }) (.of fun s u => rfl)
    (enterOff_ignores .cooldown)

theorem preheatBegun_ignores : IgnoresDeliveries preheatBegun := by
  intro s u same
  have off := enterOff_ignores .preheat s u same
  rw [preheatBegun, preheatBegun]
  generalize enterOff .preheat s = v at off ⊢
  generalize enterOff .preheat u = w at off ⊢
  unfold SameButDeliveries at off ⊢
  rw [off]
  rfl

/-- A choice by a test that the deliveries do not change. -/
theorem SameButDeliveries.ite {P Q : Prop} [Decidable P] [Decidable Q] {a b c d : State} (test : P ↔ Q) (h : SameButDeliveries a b)
    (k : SameButDeliveries c d) : SameButDeliveries (if P then a else c) (if Q then b else d) := by
  by_cases holds : P
  · rwa [if_pos holds, if_pos (test.mp holds)]
  · rwa [if_neg holds, if_neg (mt test.mpr holds)]

theorem enterPreheat_ignores : IgnoresDeliveries enterPreheat := by
  intro s u same
  have begun := preheatBegun_ignores s u same
  have entered := enterPowerOn_ignores _ _ begun
  rw [enterPreheat_eq, enterPreheat_eq]
  generalize preheatBegun s = v at begun entered ⊢
  generalize preheatBegun u = w at begun entered ⊢
  refine .ite ?_ entered begun
  have sens : w.sens = v.sens := congrArg (fun w => w.sens) (show w = v.deliveredAs w from begun)
  rw [sens]

theorem enterLockout_ignores : IgnoresDeliveries enterLockout := enterOff_ignores .lockout

theorem completeSoak_ignores : IgnoresDeliveries completeSoak :=
  .of fun _ _ => .ite Iff.rfl (enterPowerOn_ignores _ _ rfl) rfl

/-! ### The follow-ups one by one -/

@[simp] theorem deliveredAs_sens (s u : State) : (s.deliveredAs u).sens = s.sens := rfl

@[simp] theorem deliveredAs_ctl (s u : State) : (s.deliveredAs u).ctl = s.ctl := rfl

@[simp] theorem deliveredAs_chan (s u : State) : (s.deliveredAs u).chan = s.chan := rfl

@[simp] theorem deliveredAs_cfg (s u : State) : (s.deliveredAs u).cfg = s.cfg := rfl

@[simp] theorem deliveredAs_clock (s u : State) : (s.deliveredAs u).clock = s.clock := rfl

theorem SameButDeliveries.of_deliveredAs (s u : State) : SameButDeliveries s (s.deliveredAs u) := rfl

theorem updateGate_ignores : IgnoresDeliveries updateGate :=
  .of fun _ _ => .ite Iff.rfl (.ite Iff.rfl rfl (.ite Iff.rfl rfl (.ite Iff.rfl (completeSoak_ignores _ _ rfl) rfl))) (.ite Iff.rfl rfl rfl)

theorem updateWarning_ignores : IgnoresDeliveries updateWarning := by
  refine .of fun s u => ?_
  cases board : s.sens.effBoard with
  | none =>
    simp only [updateWarning, deliveredAs_sens, board]
    exact rfl
  | some b =>
    simp only [updateWarning, deliveredAs_sens, board]
    exact .ite Iff.rfl (.ite Iff.rfl rfl rfl) (.ite Iff.rfl rfl rfl)

theorem carryOut_cooldown_ignores : IgnoresDeliveries (carryOut .cooldown) :=
  .of fun _ _ => .ite Iff.rfl rfl (enterCooldown_ignores _ _ rfl)

theorem overheat_ignores : IgnoresDeliveries overheat := by
  intro s u same
  rw [overheat_eq s, overheat_eq u]
  refine carryOut_cooldown_ignores _ _ ?_
  unfold SameButDeliveries at same
  rw [same]
  exact rfl

theorem updateDwell_ignores : IgnoresDeliveries updateDwell :=
  .of fun s u => .ite Iff.rfl rfl (.ite Iff.rfl (overheat_ignores s _ (.of_deliveredAs s u)) rfl)

theorem updateCooling_ignores : IgnoresDeliveries updateCooling := by
  refine .of fun s u => ?_
  cases board : s.sens.effBoard with
  | none =>
    simp only [updateCooling, deliveredAs_sens, board]
    exact rfl
  | some b =>
    cases air : s.sens.effAir with
    | none =>
      simp only [updateCooling, deliveredAs_sens, board, air]
      exact rfl
    | some a =>
      rw [updateCooling_of_readings board air, updateCooling_of_readings (s := s.deliveredAs u) board air, raiseIf_eq, raiseIf_eq]
      exact .ite Iff.rfl rfl (.ite Iff.rfl rfl rfl)

theorem cooldownExit_ignores : IgnoresDeliveries cooldownExit := by
  refine .of fun s u => ?_
  cases board : s.sens.effBoard with
  | none =>
    simp only [cooldownExit, deliveredAs_sens, board]
    exact .ite Iff.rfl rfl rfl
  | some b =>
    have exits := SameButDeliveries.ite (P := s.ctl.originLockout = true) Iff.rfl (enterLockout_ignores s _ (.of_deliveredAs s u))
      (enterPreheat_ignores s _ (.of_deliveredAs s u))
    simp only [cooldownExit, deliveredAs_sens, board]
    exact .ite Iff.rfl (.ite Iff.rfl exits rfl) rfl

/-- The follow-ups of a sample, with the NOTICE tests between them and without. -/
theorem followUps_delivered (u : State) :
    SameButDeliveries (cooldownExit (updateCooling (updateDwell (updateWarning (updateGate u)))))
      (cooldownExit (updateCooling (updateDwell (sendNotice (updateWarning (updateGate (sendNotice u))))))) := by
  refine cooldownExit_ignores _ _ (updateCooling_ignores _ _ (updateDwell_ignores _ _ ?_))
  exact SameButDeliveries.trans (updateWarning_ignores _ _ (updateGate_ignores _ _ (sendNotice_deliveries u))) (sendNotice_deliveries _)

theorem followUps_follows (u : State) : Follows u (cooldownExit (updateCooling (updateDwell (updateWarning (updateGate u))))) :=
  (updateGate_follows u).trans <| (updateWarning_follows _).trans <| (updateDwell_follows _).trans <|
    (updateCooling_follows _).trans (cooldownExit_follows _)

/-! ## The sensor records (R27, R30, R31) -/

/-- A sensor record after a sample, by the kind of the raw code. -/
theorem sampleSensor_eq (trim : Int) (r : RawCode) (x : Sensor) :
    sampleSensor trim r x =
      if 64 ≤ r.toNat ∧ r.toNat ≤ 4031 then
        if x.state = .valid then
          { x with
            faultyRun := 0, reading := some (convert r trim)
            filtered := some (filterStep (x.filtered.getD (convert r trim)) (convert r trim)) }
        else if x.state = .starting ∨ 19 ≤ x.validRun then
          { state := .valid, faultyRun := 0, validRun := 0, reading := some (convert r trim), filtered := some (convert r trim) }
        else { x with validRun := x.validRun + 1, reading := some (convert r trim) }
      else if x.state = .failed then { x with validRun := 0 }
      else if 3 ≤ x.faultyRun then { x with state := .failed, faultyRun := 4, validRun := 0 }
      else { x with faultyRun := x.faultyRun + 1 } := by
  have twentieth : 20 ≤ x.validRun + 1 ↔ 19 ≤ x.validRun := by omega
  have fourth : 4 ≤ x.faultyRun + 1 ↔ 3 ≤ x.faultyRun := by omega
  by_cases valid : 64 ≤ r.toNat ∧ r.toNat ≤ 4031
  · obtain ⟨low, high⟩ := valid
    rw [sampleSensor_of_valid low high, if_pos ⟨low, high⟩]
    cases state : x.state <;> simp [validSample, validSensor, state, twentieth]
  · rw [sampleSensor_of_faulty (by omega), if_neg valid]
    cases state : x.state <;> simp [faultySample, failSensor, state, fourth]

/-- The three records updated, with SENSOR_FAULT where one entered FAILED, and the readings formed. -/
theorem sampleSensors_eq (a d b : RawCode) (s : State) :
    let a' := sampleSensor s.cfg.sensing.trimAir a s.sens.air
    let d' := sampleSensor s.cfg.sensing.trimDisplay d s.sens.display
    let b' := sampleSensor s.cfg.sensing.trimBoard b s.sens.board
    sampleSensors a d b s = { s with
      sens := { s.sens with
        air := a', display := d', board := b'
        effAir := (usable a').or (usable b'), effDisplay := (usable d').or (usable a'), effBoard := (usable b').or (usable a') }
      note.pending := if enteredFailed s.sens.air a' || enteredFailed s.sens.display d' || enteredFailed s.sens.board b'
        then s.note.pending ||| causeBit .sensorFault else s.note.pending } := by
  intro a' d' b'
  have merged (x y z : Bool) (p q : BitVec 13) :
      (if z then (if y then (if x then p ||| q else p) ||| q else if x then p ||| q else p) ||| q
        else if y then (if x then p ||| q else p) ||| q else if x then p ||| q else p) = if x || y || z then p ||| q else p := by
    cases x <;> cases y <;> cases z <;> simp [BitVec.or_assoc]
  have air : sampleOne .air a s = { s with
      sens.air := a', note.pending := if enteredFailed s.sens.air a' then s.note.pending ||| causeBit .sensorFault else s.note.pending } :=
    raiseIf_eq ..
  have display (p : BitVec 13) : sampleOne .display d { s with sens.air := a', note.pending := p } = { s with
      sens.air := a', sens.display := d'
      note.pending := if enteredFailed s.sens.display d' then p ||| causeBit .sensorFault else p } := raiseIf_eq ..
  have board (p : BitVec 13) : sampleOne .board b { s with sens.air := a', sens.display := d', note.pending := p } = { s with
      sens.air := a', sens.display := d', sens.board := b'
      note.pending := if enteredFailed s.sens.board b' then p ||| causeBit .sensorFault else p } := raiseIf_eq ..
  rw [sampleSensors, air, display, board, merged]
  rfl

/-- SENSOR_FAULT pending, where it was or was raised. -/
theorem pending_sensorFault (raised : Bool) (p : BitVec 13) :
    (if raised then p ||| 8#13 else p).getLsbD (Cause.sensorFault.code - 1) = (p.getLsbD (Cause.sensorFault.code - 1) || raised) := by
  have bit : (8#13).getLsbD (Cause.sensorFault.code - 1) = true := by decide
  cases raised
  · exact (Bool.or_false _).symm
  · rw [if_pos rfl, BitVec.getLsbD_or, bit]

/-- Settles O16: the records and readings by `sampleSensors_eq`, and the follow-ups by what each can do and reads. -/
theorem sampleUpdatesTheSensors : Obligations.SampleUpdatesTheSensors := by
  intro a d b s hp
  refine ⟨settle (sample a d b s), whenOn_of_powered hp (fun s => settle (sample a d b s)), ?_⟩
  beta_reduce
  intro reading after a' d' b' own enters
  have afterSample (x : Sensor) (r : RawCode) (trim : Int) : after x r trim = sampleSensor trim r x := (sampleSensor_eq trim r x).symm
  let u : State := { s with
    pins.air := a, pins.display := d, pins.board := b
    sens := { s.sens with
      air := a', display := d', board := b', sampleAt := s.clock.now
      effAir := (own a').or (own b'), effDisplay := (own d').or (own a'), effBoard := (own b').or (own a') }
    note.pending := if enters s.sens.air a' || enters s.sens.display d' || enters s.sens.board b' then s.note.pending ||| 8#13 else s.note.pending }
  have sampled : sampleSensors a d b { s with pins.air := a, pins.display := d, pins.board := b, sens.sampleAt := s.clock.now } = u := by
    rw [sampleSensors_eq]
    simp only [← afterSample]
    rfl
  let v := cooldownExit (updateCooling (updateDwell (updateWarning (updateGate u))))
  have settled : settle (sample a d b s) =
      settle (cooldownExit (updateCooling (updateDwell (sendNotice (updateWarning (updateGate (sendNotice u))))))) := by
    simp only [sample, sampled]
  have delivered : SameButDeliveries v (settle (sample a d b s)) := by
    rw [settled]
    exact (followUps_delivered u).trans (settle_deliveries _)
  have follows : Follows u (settle (sample a d b s)) := (followUps_follows u).trans (.of_delivered delivered)
  generalize settle (sample a d b s) = t at settled delivered follows ⊢
  clear_value a' d' b' own enters
  obtain ⟨frame, fault⟩ := follows
  refine ⟨congrArg (fun t => t.sens.air) frame, congrArg (fun t => t.sens.display) frame, congrArg (fun t => t.sens.board) frame,
    congrArg (fun t => t.sens.effAir) frame, congrArg (fun t => t.sens.effDisplay) frame, congrArg (fun t => t.sens.effBoard) frame,
    congrArg (fun t => t.sens.sampleAt) frame, ?_, ?_, delivered, settled⟩
  · rw [fault, isPending, pending_sensorFault, isPending, Bool.or_assoc, Bool.or_assoc, Bool.or_assoc]
  · rw [frame]
    rfl

end Sys2Proof.Machine
end

section
/-! The channels between control periods: the switches and what is measured on them, trips, the heater diagnostics, and the tach. -/

namespace Sys2Proof.Machine

/-! ## The switches (R43, R46, R47, R49, R50) -/

theorem execHeaterOnTimeEnd_eq {h : HeaterId} {s : State} (hp : s.powered = true) (due : onTimeDue h s = true) :
    exec (.heaterOnTimeEnd h) s = .next (syncHeater h s) := whenOn_test_pos (test := onTimeDue h) (f := syncHeater h) hp due

/-- A switch whose on-time has run out does not conduct. -/
theorem conducts_eq_false {now periodAt : Nat} {c : Channel} (part : c.applied < 64) (ran : periodAt + c.applied * 15625 ≤ now) :
    conducts now periodAt c = false := by
  have shut : ¬ (64 ≤ c.applied ∨ now - periodAt < c.applied * 15625) := by omega
  have off : (decide (64 ≤ c.applied) || decide (now - periodAt < c.applied * 15625)) = false := by simpa using shut
  rw [conducts, onTime, off, Bool.false_and, Bool.false_and, Bool.false_and]

/-- Settles O24: each row judges its channel's switch and measurements again. -/
theorem switches : Obligations.Switches := by
  refine ⟨fun h s hp => ⟨fun on part ran => ⟨?_, ?_⟩, fun c r => ⟨?_, ?_⟩⟩, fun c r s hp => ?_⟩
  · rw [execHeaterOnTimeEnd_eq hp ((onTimeDue_iff h s).mpr ⟨on, part, ran⟩)]
    rfl
  · exact conducts_eq_false part ran
  · rintro rfl
    exact whenOn_of_powered (s := setComparator .h0 c r s) hp (syncChannel .h0)
  · rintro rfl
    exact whenOn_of_powered (s := setComparator .h1 c r s) hp (syncChannel .h1)
  · cases c
    case trip => exact whenOn_of_powered (s := setComparator .fan .trip r s) hp (syncChannel .fan)
    case openLoad => exact whenOn_of_powered hp (syncChannel .fan)
    case sense => exact whenOn_of_powered hp (syncChannel .fan)

/-! ## Flags and the fault summary (R51) -/

/-- The fault summary that a channel's flags make. -/
def summaryOfFlags (c : ChannelId) (flags : BitVec 3) (s : State) : Bool :=
  match c with
  | .h0 => heaterSummary s.cfg.channels.mask0 flags
  | .h1 => heaterSummary s.cfg.channels.mask1 flags
  | .fan => fanSummary s.cfg.channels.maskF flags

theorem summaryOf_eq (c : ChannelId) (s : State) : summaryOf c s = summaryOfFlags c (channelOf c s).flags s := by
  cases c <;> rfl

/-- A condition found: the flag, the summary that follows it, and CHANNEL_FAULT where the summary rises. -/
theorem flagCondition_eq (c : ChannelId) (bit : BitVec 3) (s : State) :
    let x := channelOf c s
    let b := summaryOfFlags c (x.flags ||| bit) s
    flagCondition c bit s =
      { setChannel c { x with flags := x.flags ||| bit, conds := x.conds ||| bit, summary := b } s with
        note.pending := if x.summary = false ∧ b = true then s.note.pending ||| 2#13 else s.note.pending } := by
  intro x b
  have rises : (!x.summary && b) = true ↔ x.summary = false ∧ b = true := by rw [Bool.and_eq_true, Bool.not_eq_true']
  simp only [← rises]
  rw [flagCondition, refreshSummary, raiseIf_eq]
  cases c <;> rfl

theorem heaterSummary_eq (mask flags : BitVec 3) : heaterSummary mask flags = decide (flags &&& mask ≠ 0) := by
  rw [heaterSummary, bne, decide_not, beq_eq_decide]

theorem fanSummary_eq (mask flags : BitVec 3) : fanSummary mask flags = decide (flags &&& mask &&& 1 ≠ 0) := by
  rw [fanSummary, bne, decide_not, beq_eq_decide]
  rfl

theorem summaryOfFlags_heater (h : HeaterId) (flags : BitVec 3) (s : State) :
    summaryOfFlags (heaterChannel h) flags s = decide (flags &&& (if h = .h0 then s.cfg.channels.mask0 else s.cfg.channels.mask1) ≠ 0) := by
  cases h <;> exact heaterSummary_eq _ _

/-- Settles O26: what each of the four rows does once its 50 ms have run. -/
theorem heaterDiagnostics : Obligations.HeaterDiagnostics := by
  intro h s hp
  refine ⟨fun ran => ?_, fun ran => ?_, fun ran => ?_, fun ran => ?_⟩
  · unfold exec execOpenLoadDetected
    refine ⟨_, whenOn_ite_pos hp ((hasRun_iff ..).mpr ran), ?_⟩
    rw [flagCondition_eq, summaryOfFlags_heater]
    exact settle_deliveries _
  · unfold exec execShortToSupplyDetected
    refine ⟨_, whenOn_ite_pos hp ((hasRun_iff ..).mpr ran), ?_⟩
    rw [flagCondition_eq, summaryOfFlags_heater]
    exact settle_deliveries _
  · unfold exec execOpenLoadCleared
    exact whenOn_ite_pos hp ((hasRun_iff ..).mpr ran)
  · unfold exec execShortToSupplyCleared
    exact whenOn_ite_pos hp ((hasRun_iff ..).mpr ran)

/-! ## The tach and the stall (R45, R46) -/

theorem keepTimer_stall (x : Fan) (now : Nat) :
    keepTimer (decide (16 ≤ x.ch.applied) && !x.ch.holdOff && decide (x.speed < 600)) now x.stallFrom =
      if 16 ≤ x.ch.applied ∧ x.ch.holdOff = false ∧ x.speed < 600 then some (x.stallFrom.getD now) else none := by
  simp only [keepTimer, Bool.and_eq_true, decide_eq_true_eq, Bool.not_eq_true', and_assoc]

/-- The fan drive judged again, with the stall dwell as its statement writes it. -/
theorem syncFan_stall (s : State) :
    syncFan s = { s with chan.fan := { s.chan.fan with
      ch := { s.chan.fan.ch with on := (syncFan s).chan.fan.ch.on, overFrom := (syncFan s).chan.fan.ch.overFrom }
      stallFrom := if 16 ≤ s.chan.fan.ch.applied ∧ s.chan.fan.ch.holdOff = false ∧ s.chan.fan.speed < 600
        then some (s.chan.fan.stallFrom.getD s.clock.now) else none } } := by
  rw [← keepTimer_stall]
  rfl

/-- A tach period measured (R45). -/
theorem tachPulses_of_pulse {s : State} {p : Nat} (last : s.chan.fan.lastPulse = some p) :
    tachPulses s = syncFan { s with chan.fan := { s.chan.fan with
      speed := fanRpm (s.clock.now - p)
      lastPulse := some s.clock.now
      ch := { s.chan.fan.ch with
        conds := if 600 ≤ fanRpm (s.clock.now - p) ∧ 16 ≤ s.chan.fan.ch.applied then s.chan.fan.ch.conds &&& ~~~2#3 else s.chan.fan.ch.conds } } } := by
  simp only [tachPulses, last]
  split <;> rfl

theorem raiseIf_ignores (b : Bool) (c : Cause) : IgnoresDeliveries (raiseIf b c) :=
  .of fun s u => by
    rw [raiseIf_eq, raiseIf_eq]
    exact rfl

theorem stallFound_delivered (s : State) :
    let x := s.chan.fan.ch
    let summary : Bool := decide ((x.flags ||| 2) &&& s.cfg.channels.maskF &&& 1 ≠ 0)
    SameButDeliveries
      { s with
        chan.fan.ch := { x with flags := x.flags ||| 2, conds := x.conds ||| 2, summary := summary }
        note.pending := s.note.pending
          ||| (if x.summary = false ∧ summary = true then 2#13 else 0)
          ||| (if x.flags &&& 2 = 0 ∧ s.cfg.channels.maskF &&& 2 ≠ 0 then 4#13 else 0) }
      (stallFound s) := by
  intro x summary
  have rises : (s.chan.fan.ch.flags &&& stallBit == 0 && s.cfg.channels.maskF &&& stallBit != 0) = true ↔ s.chan.fan.ch.flags &&& 2 = 0 ∧ s.cfg.channels.maskF &&& 2 ≠ 0 := by
    rw [Bool.and_eq_true, beq_iff_eq, bne_iff_ne]
    rfl
  have raised (P : Prop) [Decidable P] (p q : BitVec 13) : p ||| (if P then q else 0) = if P then p ||| q else p := by
    split
    · rfl
    · exact BitVec.or_zero
  have flagged := flagCondition_eq .fan stallBit s
  have shown : summaryOfFlags .fan (s.chan.fan.ch.flags ||| stallBit) s = summary := fanSummary_eq _ _
  simp only [channelOf, shown] at flagged
  rw [stallFound, flagged]
  refine SameButDeliveries.trans ?_ (raiseIf_ignores _ _ _ _ (sendNotice_deliveries _))
  rw [raiseIf_eq]
  simp only [rises, raised]
  exact rfl

/-- Settles O27, by the rows of the fan's tach. -/
theorem tachAndStall : Obligations.TachAndStall := by
  intro s hp
  refine ⟨fun none => ?_, fun p last => ⟨tachPulses s, whenOn_of_powered hp tachPulses, ?_⟩, fun ran => ?_, fun ran => ?_⟩
  · refine (whenOn_of_powered hp tachPulses).trans (congrArg _ ?_)
    simp only [tachPulses, none]
  · rw [tachPulses_of_pulse last, syncFan_stall]
    exact ⟨rfl, rfl, rfl, rfl, rfl, rfl⟩
  · refine ⟨_, whenOn_test_pos (test := tachDue) (f := fun s => syncFan { s with chan.fan.speed := 0, chan.fan.lastPulse := none }) hp
      ((tachDue_iff s).mpr ran), ?_⟩
    simp only
    rw [syncFan_stall]
    simp only [Nat.zero_lt_succ, and_true]
  · unfold exec execStallDetected
    refine ⟨_, whenOn_ite_pos hp ((hasRun_iff ..).mpr ran), ?_⟩
    exact (stallFound_delivered s).trans (settle_deliveries _)

/-! ## Trips (R47, R48) -/

/-- A channel after a trip, its history and its summary given. -/
def Channel.tripped (x : Channel) (trips : List Nat) (summary : Bool) : Channel :=
  { x with
    holdOff := true, trips := trips, flags := x.flags ||| 1, conds := x.conds ||| 1, summary := summary
    state := if 3 ≤ trips.length then .lockedOff else x.state, applied := if 3 ≤ trips.length then 0 else x.applied }

/-- A trip before the switches are judged again: the history, the flag and the summary, and the lock at the third. -/
theorem tripChannel_eq (c : ChannelId) (s : State) :
    let x := channelOf c s
    let trips := youngTrips s.clock.now x.trips ++ [s.clock.now]
    let b := summaryOfFlags c (x.flags ||| 1) s
    tripChannel c s = syncSwitches (setChannel c (x.tripped trips b) { s with
      chan.h0.base := if 3 ≤ trips.length ∧ c = .h0 then 0 else s.chan.h0.base
      chan.h1.base := if 3 ≤ trips.length ∧ c = .h1 then 0 else s.chan.h1.base
      note.pending := if x.summary = false ∧ b = true then s.note.pending ||| 2#13 else s.note.pending }) := by
  intro x trips b
  have flagged : flagCondition c overcurrentBit (setChannel c { x with holdOff := true, trips := trips } s) =
      { setChannel c { x with holdOff := true, trips := trips, flags := x.flags ||| 1, conds := x.conds ||| 1, summary := b } s with
        note.pending := if x.summary = false ∧ b = true then s.note.pending ||| 2#13 else s.note.pending } :=
    (flagCondition_eq ..).trans (by cases c <;> rfl)
  have tripped : tripChannel c s = syncSwitches (if 3 ≤ trips.length
      then lockOff c (flagCondition c overcurrentBit (setChannel c { x with holdOff := true, trips := trips } s))
      else flagCondition c overcurrentBit (setChannel c { x with holdOff := true, trips := trips } s)) := rfl
  rw [tripped, flagged]
  clear_value trips b
  congr 1
  by_cases third : 3 ≤ trips.length
  · simp only [Channel.tripped, third, if_true, true_and]
    cases c <;> rfl
  · simp only [Channel.tripped, third, if_false, false_and]
    cases c <;> rfl

/-- What the switches judged again leave of a channel that is held off. -/
theorem syncSwitches_on_of_holdOff {c : ChannelId} {s : State} (held : (channelOf c s).holdOff = true) : (channelOf c (syncSwitches s)).on = false := by
  cases c
  case fan =>
    have on : (channelOf .fan (syncSwitches s)).on = fanDrive s.chan.fan.ch := rfl
    have held : s.chan.fan.ch.holdOff = true := held
    rw [on, fanDrive, held, Bool.not_true, Bool.and_false, Bool.false_and]
  case h0 =>
    have on : (channelOf .h0 (syncSwitches s)).on = conducts s.clock.now s.bud.periodAt s.chan.h0.ch := rfl
    have held : s.chan.h0.ch.holdOff = true := held
    rw [on, conducts, held, Bool.not_true, Bool.and_false, Bool.false_and, Bool.false_and]
  case h1 =>
    have on : (channelOf .h1 (syncSwitches s)).on = conducts s.clock.now s.bud.periodAt s.chan.h1.ch := rfl
    have held : s.chan.h1.ch.holdOff = true := held
    rw [on, conducts, held, Bool.not_true, Bool.and_false, Bool.false_and, Bool.false_and]

theorem youngTrips_eq (now : Nat) (l : List Nat) : youngTrips now l = l.filter fun t => decide (now < t + 60000000) := rfl

theorem pending_channelFault (P : Prop) [Decidable P] (p : BitVec 13) :
    (if P then p ||| 2#13 else p).getLsbD (Cause.channelFault.code - 1) = (p.getLsbD (Cause.channelFault.code - 1) || decide P) := by
  have bit : (2#13).getLsbD (Cause.channelFault.code - 1) = true := by decide
  split
  case isTrue h => rw [BitVec.getLsbD_or, bit, decide_eq_true h]
  case isFalse h => rw [decide_eq_false h, Bool.or_false]

theorem summaryOfFlags_of_cfg {c : ChannelId} {flags : BitVec 3} {s t : State} (cfg : t.cfg = s.cfg) :
    summaryOfFlags c flags t = summaryOfFlags c flags s := by
  cases c <;> simp only [summaryOfFlags, cfg]

/-- The switches judged again and then the deliveries, as the fields they take from the state they leave. -/
theorem switched_of_delivered {v t : State} (h : SameButDeliveries (syncSwitches v) t) : t = (v.deliveredAs t).switchedAs t := by
  unfold SameButDeliveries at h
  rw [h, syncSwitches_eq]
  rfl

/-- What the deliveries leave, by any projection that does not look at what they change. -/
theorem eq_of_delivered {α : Type} (f : State → α) (blind : ∀ s u : State, f (s.deliveredAs u) = f s) {s u : State} (same : SameButDeliveries s u) :
    f u = f s := by
  unfold SameButDeliveries at same
  rw [same]
  exact blind s u

/-- The state a trip leaves before the switches are judged again. -/
def beforeSwitches (c : ChannelId) (trips : List Nat) (b : Bool) (s : State) : State :=
  setChannel c ((channelOf c s).tripped trips b) { s with
    chan.h0.base := if 3 ≤ trips.length ∧ c = .h0 then 0 else s.chan.h0.base
    chan.h1.base := if 3 ≤ trips.length ∧ c = .h1 then 0 else s.chan.h1.base
    note.pending := if (channelOf c s).summary = false ∧ b = true then s.note.pending ||| 2#13 else s.note.pending }

theorem beforeSwitches_cfg (c : ChannelId) (trips : List Nat) (b : Bool) (s : State) : (beforeSwitches c trips b s).cfg = s.cfg :=
  setChannel_cfg ..

theorem beforeSwitches_pending (c : ChannelId) (trips : List Nat) (b : Bool) (s : State) : (beforeSwitches c trips b s).note.pending =
    if (channelOf c s).summary = false ∧ b = true then s.note.pending ||| 2#13 else s.note.pending :=
  congrArg NoticeUnit.pending (setChannel_note ..)

theorem syncSwitches_cfg (v : State) : (syncSwitches v).cfg = v.cfg :=
  congrArg (fun t => t.cfg) (syncSwitches_eq v)

theorem syncSwitches_note (v : State) : (syncSwitches v).note = v.note :=
  congrArg (fun t => t.note) (syncSwitches_eq v)

theorem beforeSwitches_base (c : ChannelId) (trips : List Nat) (b : Bool) (s : State) (third : 3 ≤ trips.length) (h : HeaterId)
    (same : heaterChannel h = c) : (heaterOf h (beforeSwitches c trips b s)).base = 0 := by
  cases h <;> cases same <;> exact if_pos ⟨third, rfl⟩

theorem beforeSwitches_frame {c : ChannelId} {trips : List Nat} {b : Bool} {s t : State}
    (h : t = ((beforeSwitches c trips b s).deliveredAs t).switchedAs t) :
    t = { s.deliveredAs t with chan.h0 := t.chan.h0, chan.h1 := t.chan.h1, chan.fan := t.chan.fan, note.pending := t.note.pending } := by
  rw [h]
  cases c <;> rfl

theorem channelOf_of_switched {v t : State} (h : t = (v.deliveredAs t).switchedAs t) (c : ChannelId) :
    channelOf c t = (channelOf c v).switchedAs (channelOf c t) := by
  cases c
  · exact congrArg (fun t => t.chan.h0.ch) h
  · exact congrArg (fun t => t.chan.h1.ch) h
  · exact congrArg (fun t => t.chan.fan.ch) h

theorem heaterBase_of_switched {v t : State} (h : t = (v.deliveredAs t).switchedAs t) (i : HeaterId) : (heaterOf i t).base = (heaterOf i v).base := by
  cases i
  · exact congrArg (fun t => t.chan.h0.base) h
  · exact congrArg (fun t => t.chan.h1.base) h

/-- What a trip leaves, once the switches are judged again and the deliveries made. -/
theorem trip_delivered (c : ChannelId) (s : State) :
    SameButDeliveries (syncSwitches (beforeSwitches c (youngTrips s.clock.now (channelOf c s).trips ++ [s.clock.now])
      (summaryOfFlags c ((channelOf c s).flags ||| 1) s) s)) (settle (tripChannel c s)) := by
  have tripped := tripChannel_eq c s
  simp only at tripped
  rw [tripped]
  exact settle_deliveries _

/-- Settles O25: the trip by `tripChannel_eq`, and the ageing of the history. -/
theorem trips : Obligations.Trips := by
  refine ⟨fun c s hp => ?_, fun c s hp => ⟨fun locked => ?_, fun unlocked old => ?_⟩⟩
  · intro cold span x young ran
    have due : overcurrentDue c s = true := by
      rw [overcurrentDue_iff, filterTime_eq]
      exact ran
    refine ⟨settle (tripChannel c s), whenOn_test_pos (test := overcurrentDue c) (f := fun s => settle (tripChannel c s)) hp due, ?_⟩
    have delivered := trip_delivered c s
    let trips := young ++ [s.clock.now]
    let b := summaryOfFlags c (x.flags ||| 1) s
    have third : 3 ≤ trips.length ↔ 2 ≤ young.length := by
      rw [List.length_append, List.length_singleton]
      omega
    have flags : summaryOfFlags c (x.flags ||| 1) s = b := rfl
    have bases := beforeSwitches_base c trips b s
    have before : channelOf c (beforeSwitches c trips b s) = x.tripped trips b := channelOf_setChannel ..
    have held : (channelOf c (beforeSwitches c trips b s)).holdOff = true := congrArg Channel.holdOff before
    have off := syncSwitches_on_of_holdOff held
    have on : channelOf c (settle (tripChannel c s)) = channelOf c (syncSwitches (beforeSwitches c trips b s)) :=
      eq_of_delivered (channelOf c) (fun s u => by cases c <;> rfl) delivered
    have cfg : (settle (tripChannel c s)).cfg = s.cfg := (eq_of_delivered State.cfg (fun _ _ => rfl) delivered).trans
      ((syncSwitches_cfg _).trans (beforeSwitches_cfg ..))
    have pending : (settle (tripChannel c s)).note.pending = if x.summary = false ∧ b = true then s.note.pending ||| 2#13 else s.note.pending :=
      (eq_of_delivered (fun t => t.note.pending) (fun _ _ => rfl) delivered).trans
        ((congrArg NoticeUnit.pending (syncSwitches_note _)).trans (beforeSwitches_pending ..))
    have frame := switched_of_delivered delivered
    generalize settle (tripChannel c s) = t at delivered on cfg pending frame ⊢
    beta_reduce
    intro y
    have shape : y = (x.tripped trips b).switchedAs y := by rw [← before]; exact channelOf_of_switched frame c
    have summary : y.summary = b := congrArg Channel.summary shape
    refine ⟨congrArg Channel.holdOff shape, (congrArg Channel.on on).trans off, congrArg Channel.trips shape, congrArg Channel.flags shape,
      congrArg Channel.conds shape, ?_, ?_, fun few => ⟨?_, ?_⟩, fun many => ⟨?_, ?_, fun h same => ?_⟩, beforeSwitches_frame frame, ?_⟩
    · rw [summary, summaryOf_eq, congrArg Channel.flags shape]
      exact (summaryOfFlags_of_cfg cfg).symm
    · rw [summary, isPending, pending, pending_channelFault, isPending]
      cases x.summary <;> cases b <;> rfl
    · exact (congrArg Channel.state shape).trans (if_neg (mt third.mp (Nat.not_le.mpr few)))
    · exact (congrArg Channel.applied shape).trans (if_neg (mt third.mp (Nat.not_le.mpr few)))
    · exact (congrArg Channel.state shape).trans (if_pos (third.mpr many))
    · exact (congrArg Channel.applied shape).trans (if_pos (third.mpr many))
    · exact (heaterBase_of_switched frame h).trans (bases (third.mpr many) h same)
    · intro locks tripped
      have same : tripped = beforeSwitches c trips b s := by
        simp only [tripped, locks, summary, beforeSwitches, Channel.tripped, third]
        rfl
      rw [same]
      exact frame
  · exact whenOn_test_neg (test := ageOutDue c) (fun h => ((ageOutDue_iff c s).mp h).1 locked)
  · have due : ageOutDue c s = true := by
      refine (ageOutDue_iff c s).mpr ⟨unlocked, ?_⟩
      by_contra none
      refine old (List.filter_eq_self.mpr fun t ht => decide_eq_true ?_)
      exact Nat.lt_of_not_le fun aged => none ⟨t, ht, aged⟩
    refine (whenOn_test_pos (test := ageOutDue c) (f := ageTrips c) hp due).trans (congrArg _ ?_)
    simp only [ageTrips, youngTrips_eq, List.isEmpty_iff]
    congr 1
    split <;> rfl

end Sys2Proof.Machine
end

section
/-! Level frames, control periods and HEAT_INH#: what an allocation makes of the demands, wherever it is made. -/

namespace Sys2Proof.Machine

/-! ## The downstream queue -/

theorem offerDown_admitted {s : State} (free : s.link.b.stalled = false) (room : s.link.down.length < 8) (received : Bool) (f : DownFrame) :
    offerDown received f s = (setDown (s.link.down ++ [f]) s, true) := by
  simp only [offerDown, free, room, Bool.false_eq_true, if_false, if_true]

theorem offerDown_refused {s : State} (full : s.link.b.stalled = true ∨ 8 ≤ s.link.down.length) (received : Bool) (f : DownFrame) :
    (offerDown received f s).2 = false ∧ (offerDown received f s).1.link.down = s.link.down ∧ (offerDown received f s).1.bud = s.bud := by
  by_cases stalled : s.link.b.stalled = true
  · rw [offerDown, if_pos stalled]
    exact ⟨rfl, rfl, rfl⟩
  · have long : ¬ s.link.down.length < 8 := Nat.not_lt.mpr (full.resolve_left stalled)
    rw [offerDown, if_neg stalled, if_neg long]
    cases received <;> exact ⟨rfl, rfl, rfl⟩

/-- The level frames of the part's own that wait give way (R69). -/
theorem supersede_down (s : State) : (supersede s).link.down = s.link.down.filter fun x => decide (x.mark ≠ .own) := by
  have test : (fun x : DownFrame => x.mark != .own) = fun x => decide (x.mark ≠ .own) := by
    funext x
    rw [bne, decide_not, beq_eq_decide]
  rw [supersede, test]
  rfl

/-! ## Level frames (R67 to R70) -/

/-- The level a frame carries once it is clamped. -/
theorem withLevel_level {f : Frame} {i level : Nat} (inside : i < f.payload.length) (small : level ≤ 255) :
    u8At (withLevel f i level).payload i = level := by
  have read : u8At (withLevel f i level).payload i = (byte level).toNat := by
    simp only [u8At, withLevel, mkFrame, List.getD_eq_getElem?_getD, List.getElem?_set_self inside, Option.getD_some]
  rw [read, byte, BitVec.toNat_ofNat]
  omega

/-- What a level frame from the computer makes of the backlight record, before it is offered (R67). -/
def levelTaken (f : Frame) (i : Nat) (s : State) : State :=
  let level := u8At f.payload i
  let above := decide (s.bud.back.ceiling < level)
  { supersede s with
    bud.back.lReq := level, bud.back.clamped := above, bud.back.template := some (if above then withLevel f i s.bud.back.ceiling else f)
    bud.back.levelOffset := some i }

theorem computerLevel_eq (f : Frame) (i : Nat) (s : State) :
    let level := u8At f.payload i
    let above := decide (s.bud.back.ceiling < level)
    let g := if above then withLevel f i s.bud.back.ceiling else f
    let r := offerDown true { frame := g, mark := .computer } (levelTaken f i s)
    computerLevel f i s =
      (judgeUnenforced (if r.2 then { r.1 with bud.back.lFwd := u8At g.payload i, bud.back.resend := false } else { r.1 with bud.back.resend := true }),
        above) := rfl

theorem levelDue_iff (b : Backlight) :
    levelDue b = true ↔ b.resend = true ∨ b.ceiling < b.lFwd ∨ (b.lFwd < b.ceiling ∧ b.clamped = true) := by
  simp only [levelDue, Bool.or_eq_true, Bool.and_eq_true, decide_eq_true_eq, or_assoc]

theorem sendLevel_of_due {s : State} {f : Frame} (template : s.bud.back.template = some f) (due : levelDue s.bud.back = true) :
    let r := offerDown false { frame := withLevel f (s.bud.back.levelOffset.getD 0) s.bud.back.ceiling, mark := .own } (supersede s)
    sendLevel s = if r.2 then
        { r.1 with
          bud.back.lFwd := s.bud.back.ceiling, bud.back.resend := false, bud.back.clamped := decide (s.bud.back.ceiling < s.bud.back.lReq) }
      else { r.1 with bud.back.resend := true } := by
  simp only [sendLevel, template, due, if_true]

/-- A level frame from the computer that the queue admits. -/
theorem computerLevel_admitted {f : Frame} {i : Nat} {s : State} (free : s.link.b.stalled = false) (room : (supersede s).link.down.length < 8) :
    let level := u8At f.payload i
    let above := decide (s.bud.back.ceiling < level)
    let g := if above then withLevel f i s.bud.back.ceiling else f
    computerLevel f i s = (judgeUnenforced { setDown ((supersede s).link.down ++ [{ frame := g, mark := .computer }]) (levelTaken f i s) with
      bud.back.lFwd := u8At g.payload i, bud.back.resend := false }, above) := by
  intro level above g
  have taken := computerLevel_eq f i s
  simp only [offerDown_admitted (s := levelTaken f i s) free room] at taken
  exact taken

/-- A level frame from the computer that the queue refuses. -/
theorem computerLevel_refused {f : Frame} {i : Nat} {s : State} (full : s.link.b.stalled = true ∨ 8 ≤ (supersede s).link.down.length) :
    let r := computerLevel f i s
    r.2 = decide (s.bud.back.ceiling < u8At f.payload i) ∧ r.1.link.down = (supersede s).link.down
      ∧ r.1.bud.back = { (levelTaken f i s).bud.back with
          resend := true, unenforced := decide ((levelTaken f i s).bud.back.ceiling < (levelTaken f i s).bud.back.lFwd) } := by
  have taken := computerLevel_eq f i s
  obtain ⟨refused, down, bud⟩ := offerDown_refused (s := levelTaken f i s) full true
    { frame := if decide (s.bud.back.ceiling < u8At f.payload i) then withLevel f i s.bud.back.ceiling else f, mark := .computer }
  simp only [refused, Bool.false_eq_true, if_false] at taken
  intro r
  refine ⟨congrArg Prod.snd taken, (congrArg (fun r => r.1.link.down) taken).trans down, ?_⟩
  have back := congrArg (fun r => r.1.bud.back) taken
  simp only [judgeUnenforced, bud] at back
  exact back

/-- The level forwarded is at most the ceiling. -/
theorem forwarded_level {f : Frame} {i ceiling : Nat} (inside : i < f.payload.length) (small : ceiling ≤ 255) :
    u8At (if decide (ceiling < u8At f.payload i) then withLevel f i ceiling else f).payload i = min (u8At f.payload i) ceiling := by
  by_cases above : ceiling < u8At f.payload i
  · rw [if_pos (decide_eq_true above), withLevel_level inside small]
    omega
  · rw [if_neg (by simpa using above)]
    omega

theorem not_full {stalled : Bool} {n : Nat} (free : stalled = false) (room : n < 8) : ¬ (stalled = true ∨ 8 ≤ n) := by
  rw [free]
  exact not_or.mpr ⟨Bool.false_ne_true, Nat.not_le.mpr room⟩

/-- Settles O29: a level frame admitted to the queue and one refused by it, from the computer and of the part's own. -/
theorem levelFrames : Obligations.LevelFrames := by
  refine ⟨fun f i s inside => ?_, fun s => ⟨fun not => ?_, fun f template due => ⟨fun free room => ?_, fun full => ?_⟩⟩⟩
  · intro r level above kept sent
    have free_or : (s.link.b.stalled = false ∧ kept.length < 8) ∨ (s.link.b.stalled = true ∨ 8 ≤ kept.length) := by
      cases s.link.b.stalled
      · exact (Nat.lt_or_ge kept.length 8).imp (fun h => ⟨rfl, h⟩) .inr
      · exact .inr (.inl rfl)
    have queue : (supersede s).link.down = kept := supersede_down s
    rcases free_or with ⟨free, room⟩ | full
    · have taken := computerLevel_admitted (f := f) (i := i) free (by rw [queue]; exact room)
      have shape : r = _ := taken
      rw [queue] at shape
      rw [shape]
      refine ⟨rfl, rfl, rfl, rfl, rfl, rfl, fun _ _ => ⟨rfl, rfl, fun small => ⟨forwarded_level inside small, ?_⟩⟩, fun full => ?_⟩
      · have low := forwarded_level inside small
        refine decide_eq_false ?_
        change ¬ s.bud.back.ceiling < u8At (if decide (s.bud.back.ceiling < u8At f.payload i) then withLevel f i s.bud.back.ceiling else f).payload i
        rw [low]
        omega
      · exact absurd full (not_full free room)
    · obtain ⟨clamped, down, back⟩ := computerLevel_refused (f := f) (i := i) (s := s) (by rw [queue]; exact full)
      refine ⟨clamped, congrArg (fun b => b.lReq) back, congrArg (fun b => b.clamped) back, congrArg (fun b => b.template) back,
        congrArg (fun b => b.levelOffset) back, congrArg (fun b => b.ceiling) back, fun free room => ?_, fun _ => ⟨down.trans queue, congrArg (fun b => b.resend) back,
          congrArg (fun b => b.lFwd) back⟩⟩
      exact absurd full (not_full free room)
  · cases template : s.bud.back.template with
    | none => simp only [sendLevel, template]
    | some f =>
      have idle : levelDue s.bud.back = false := by
        rw [← Bool.not_eq_true, levelDue_iff]
        exact not.resolve_left (by rw [template]; exact Option.some_ne_none f)
      simp only [sendLevel, template, idle, Bool.false_eq_true, if_false]
  · have sent := sendLevel_of_due template ((levelDue_iff _).mpr due)
    rw [← supersede_down] at room ⊢
    rw [sent, offerDown_admitted (s := supersede s) free room]
    exact ⟨rfl, rfl⟩
  · have sent := sendLevel_of_due template ((levelDue_iff _).mpr due)
    rw [← supersede_down] at full ⊢
    obtain ⟨refused, down, bud⟩ := offerDown_refused (s := supersede s) full false
      { frame := withLevel f (s.bud.back.levelOffset.getD 0) s.bud.back.ceiling, mark := .own }
    simp only [refused, Bool.false_eq_true, if_false] at sent
    rw [sent]
    exact ⟨down, by rw [bud]; rfl⟩

/-! ## What an allocation makes of the channels (R40 to R44) -/

/-- The grant of a heater in an allocation. -/
def heaterGrant (i : HeaterId) (a : Allocation) : Nat :=
  match i with
  | .h0 => a.h0Grant
  | .h1 => a.h1Grant

/-- The demand of a heater by the law of R40. -/
def demandOf (i : HeaterId) (s : State) : Nat :=
  let p := s.cfg.channels
  match i with
  | .h0 => heaterDemand s.ctl.phase s.chan.h0.ch.state s.chan.inhibit s.sens.effBoard p.h0Run p.h0Preheat p.pb0
  | .h1 => heaterDemand s.ctl.phase s.chan.h1.ch.state s.chan.inhibit s.sens.effDisplay p.h1Run p.h1Preheat p.pb1

/-- The demand of the fan by the law of R44. -/
def fanDemandOf (s : State) : Nat :=
  let p := s.cfg.channels
  fanDemand s.ctl.phase s.chan.fan.ch.state (fanRunState s.chan.fan.running s.sens.effAir p.tOn) s.sens.effAir p.tOn p.tFull

/-- What an allocation grants on: the demands as they were offered. -/
theorem allocInput_eq (reserve : Bool) (s : State) :
    allocInputOf reserve (offerDemands s) =
      { params := s.cfg.budget, reserve := reserve, dF := (allocate reserve s).chan.fan.ch.offered
        d1 := (allocate reserve s).chan.h1.ch.offered, d0 := (allocate reserve s).chan.h0.ch.offered
        lReq := s.bud.back.lReq, degraded := s.chan.cooling.degraded } := by
  rw [allocate_chan]
  rfl

/-- A heater after an allocation, whoever makes it. -/
theorem allocate_heater (reserve : Bool) (s : State) (i : HeaterId) :
    let g := heaterGrant i (allocate reserve s).bud.last
    let x := heaterOf i s
    let y := heaterOf i (allocate reserve s)
    y.ch.applied = g ∧ y.base = g ∧ y.ch.state = channelStateAfter x.ch.state s.chan.inhibit g
    ∧ y.ch.demand = demandOf i s ∧ y.ch.offered = min (demandOf i s) (x.base + 8)
    ∧ y.ch.on = conducts s.clock.now s.bud.periodAt y.ch := by
  cases i
  case h0 =>
    simp only [heaterOf, allocate_chan, allocate_last]
    exact ⟨rfl, rfl, rfl, rfl, rfl, rfl⟩
  case h1 =>
    simp only [heaterOf, allocate_chan, allocate_last]
    exact ⟨rfl, rfl, rfl, rfl, rfl, rfl⟩

/-- The fan after an allocation, whoever makes it. -/
theorem allocate_fan (reserve : Bool) (s : State) :
    let g := (allocate reserve s).bud.last.fanGrant
    let y := (allocate reserve s).chan.fan
    y.ch.applied = g ∧ y.ch.state = channelStateAfter s.chan.fan.ch.state false g ∧ y.ch.demand = fanDemandOf s ∧ y.ch.offered = fanDemandOf s
    ∧ y.running = fanRunState s.chan.fan.running s.sens.effAir s.cfg.channels.tOn := by
  simp only [allocate_chan, allocate_last]
  exact ⟨rfl, rfl, rfl, rfl, rfl⟩

theorem heaterGrant_le_offered (reserve : Bool) (s : State) (i : HeaterId) :
    heaterGrant i (allocate reserve s).bud.last ≤ (heaterOf i (allocate reserve s)).ch.offered := by
  rw [allocate_last, allocInput_eq]
  cases i <;> exact grantOf_le ..

/-- A heater granted nothing is charged nothing. -/
theorem allocate_charge_eq_zero {reserve : Bool} {s : State} :
    (heaterGrant .h0 (allocate reserve s).bud.last = 0 → (allocate reserve s).bud.last.h0Charge = 0)
      ∧ (heaterGrant .h1 (allocate reserve s).bud.last = 0 → (allocate reserve s).bud.last.h1Charge = 0) := by
  have free (p : Nat) : chargeOf 0 p = 0 := by simp [chargeOf]
  rw [allocate_last]
  refine ⟨fun none => ?_, fun none => ?_⟩
  · exact (congrArg (chargeOf · _) none).trans (free _)
  · exact (congrArg (chargeOf · _) none).trans (free _)

/-- An allocation and the deliveries that follow it, as the fields they take from the state they leave. -/
theorem allocated_delivered {reserve : Bool} {u t : State} (h : SameButDeliveries (allocate reserve u) t) :
    t = (u.allocatedAs t).deliveredAs t := by
  have allocated := allocate_allocatedAs reserve u
  unfold SameButDeliveries at h
  generalize allocate reserve u = v at h allocated
  refine (h.trans (congrArg (fun v : State => v.deliveredAs t) allocated)).trans ?_
  rw [h]
  rfl

/-! ## Control periods (R40 to R44, R60, R61) -/

theorem pwrEnPhase_iff (p : Phase) : pwrEnPhase p = true ↔ p ∈ [Phase.powerOn, .boot, .run, .restart] := by cases p <;> decide

theorem heaterDemand_law (phase : Phase) (st : ChannelState) (inhibit : Bool) (reading : Option Int) (run preheat pb : Int) :
    heaterDemand phase st inhibit reading run preheat pb =
      if phase = .cooldown ∨ st = .lockedOff ∨ inhibit = true then 0
      else reading.elim 16 fun T => proportional (if phase ∈ [Phase.powerOn, .boot, .run, .restart] then run else preheat) T pb := by
  by_cases off : phase = .cooldown ∨ st = .lockedOff ∨ inhibit = true
  · rw [heaterDemand_eq_zero off, if_pos off]
  · obtain ⟨warm, unlocked, free⟩ : phase ≠ .cooldown ∧ st ≠ .lockedOff ∧ inhibit ≠ true := by simpa only [not_or] using off
    unfold heaterDemand
    rw [if_neg warm, if_neg unlocked, if_neg free, if_neg off]
    cases reading with
    | none => rfl
    | some T => simp only [Option.elim, pwrEnPhase_iff]

theorem fanDemand_law (phase : Phase) (st : ChannelState) (running : Bool) (air : Option Int) (tOn tFull : Int) :
    fanDemand phase st running air tOn tFull =
      if st = .lockedOff then 0
      else if phase = .cooldown then 64
      else air.elim 64 fun T =>
        if running = false then 0 else if tFull ≤ T then 64 else if T ≤ tOn then 16 else max 16 (64 * (T - tOn) / (tFull - tOn)).toNat := by
  cases air with
  | none => rfl
  | some T =>
    have swap (a b : Nat) : (if tOn < T then a else b) = if T ≤ tOn then b else a := by rw [← ite_not]; simp only [not_lt]
    simp only [fanDemand, Option.elim, Bool.not_eq_true', swap]

theorem fanRunState_eq (running : Bool) (air : Option Int) (tOn : Int) :
    fanRunState running air tOn = air.elim running fun T => if running then decide (tOn - 8 < T) else decide (tOn < T) := by
  cases air <;> rfl

/-- The state a channel is left in by its grant (R42). -/
theorem stateAfter_laws {y st : ChannelState} {b : Bool} {g : Nat} (h : y = channelStateAfter st b g) :
    (st ≠ .lockedOff → b = false → y = if g = 0 then .off else .active) ∧ (st ≠ .lockedOff → b = true → y = .inhibited)
      ∧ (st = .lockedOff → y = .lockedOff) := by
  subst h
  unfold channelStateAfter
  refine ⟨fun unlocked free => ?_, fun unlocked inhibited => ?_, fun locked => if_pos locked⟩
  · rw [if_neg unlocked, free, if_neg Bool.false_ne_true]
  · rw [if_neg unlocked, if_pos inhibited]

/-- An allocation as one with the channels it leaves, the level frame and the judgement to come (R61). -/
theorem allocate_stages (reserve : Bool) (s : State) :
    let v := allocate reserve s
    let i := allocInputOf reserve (offerDemands s)
    v = judgeUnenforced (sendLevel (countLimited (isLimited i)
      { s with chan := v.chan, bud.last := allocationOf i, bud.back.ceiling := (allocationOf i).ceiling })) := by
  intro v i
  have grants : granted (allocationOf i) (offerDemands s) =
      { s with chan := v.chan, bud.last := allocationOf i, bud.back.ceiling := (allocationOf i).ceiling } := by
    have chan : v.chan = (syncSwitches (applyGrants (allocationOf i) (offerDemands s))).chan := allocate_chan reserve s
    rw [chan, granted, syncSwitches_eq]
    rfl
  have stages : v = _ := allocate_eq_granted reserve s
  rw [← grants]
  exact stages

/-- Settles O23: the stages of one allocation, and the allocation of a control period by the laws of its demands. -/
theorem controlPeriod : Obligations.ControlPeriod := by
  refine ⟨fun reserve s => ?_, fun s hp => ?_⟩
  · intro v i sent
    refine ⟨allocate_grants reserve s, ?_⟩
    have stages := allocate_stages reserve s
    simp only [allocInput_eq] at stages
    exact stages
  · refine ⟨settle (allocate s.lines.pwrEn (beginPeriod s)), whenOn_of_powered hp (fun s => settle (allocateNow (beginPeriod s))), ?_⟩
    have delivered := settle_deliveries (allocate s.lines.pwrEn (beginPeriod s))
    have frame := allocated_delivered delivered
    have chan : (settle (allocate s.lines.pwrEn (beginPeriod s))).chan = (allocate s.lines.pwrEn (beginPeriod s)).chan :=
      eq_of_delivered State.chan (fun _ _ => rfl) delivered
    have bud : (settle (allocate s.lines.pwrEn (beginPeriod s))).bud = (allocate s.lines.pwrEn (beginPeriod s)).bud :=
      eq_of_delivered State.bud (fun _ _ => rfl) delivered
    obtain ⟨applied0, base0, state0, demand0, offered0, -⟩ := allocate_heater s.lines.pwrEn (beginPeriod s) .h0
    obtain ⟨applied1, base1, state1, demand1, offered1, -⟩ := allocate_heater s.lines.pwrEn (beginPeriod s) .h1
    obtain ⟨appliedF, stateF, demandF, offeredF, running⟩ := allocate_fan s.lines.pwrEn (beginPeriod s)
    have last := allocate_last s.lines.pwrEn (beginPeriod s)
    have ceiling := allocate_ceiling s.lines.pwrEn (beginPeriod s)
    rw [allocInput_eq] at last
    generalize settle (allocate s.lines.pwrEn (beginPeriod s)) = t at delivered frame chan bud ⊢
    have exact_delivered := delivered
    generalize allocate s.lines.pwrEn (beginPeriod s) = v at delivered chan bud applied0 base0 state0 demand0 offered0 applied1 base1 state1 demand1 offered1 appliedF stateF demandF offeredF running last ceiling
    simp only [heaterOf, heaterGrant, last, ← chan] at applied0 base0 state0 demand0 offered0 applied1 base1 state1 demand1 offered1 appliedF stateF demandF offeredF running
    simp only [← bud, ← chan] at last ceiling
    beta_reduce
    intro p law heat running' fan a
    have runs : running' = fanRunState s.chan.fan.running s.sens.effAir p.tOn := (fanRunState_eq ..).symm
    have fanLaw : fan = fanDemandOf s := by
      simp only [fan, runs]
      exact (fanDemand_law ..).symm
    obtain ⟨free0, inhibited0, locked0⟩ := stateAfter_laws state0
    obtain ⟨free1, inhibited1, locked1⟩ := stateAfter_laws state1
    obtain ⟨freeF, -, lockedF⟩ := stateAfter_laws stateF
    refine ⟨demand0.trans (heaterDemand_law ..), demand1.trans (heaterDemand_law ..), demandF.trans fanLaw.symm, running.trans runs.symm,
      offered0.trans (by rw [demand0]; rfl), offered1.trans (by rw [demand1]; rfl), offeredF.trans demandF.symm, last, ceiling.trans (congrArg _ last),
      applied0, base0, applied1, base1, appliedF, free0, free1, inhibited0, inhibited1, fun unlocked => freeF unlocked rfl, locked0, locked1, lockedF,
      frame, exact_delivered⟩

/-! ## HEAT_INH# (R54, R55) -/

theorem conducts_of_inhibited {now periodAt : Nat} {c : Channel} (off : c.state = .inhibited ∨ c.state = .lockedOff) : conducts now periodAt c = false := by
  rcases off with off | off
  · rw [conducts, off, bne_self_eq_false, Bool.and_false]
  · rw [conducts, off, bne_self_eq_false, Bool.and_false, Bool.false_and]

/-- A heater after an allocation made under HEAT_INH#: off, whatever was asked. -/
theorem allocate_heater_inhibited {reserve : Bool} {s : State} (inhibited : s.chan.inhibit = true) (i : HeaterId) :
    let y := heaterOf i (allocate reserve s)
    heaterGrant i (allocate reserve s).bud.last = 0 ∧ y.ch.applied = 0 ∧ y.ch.on = false ∧ y.base = 0
      ∧ y.ch.state = if (heaterOf i s).ch.state = .lockedOff then .lockedOff else .inhibited := by
  obtain ⟨applied, base, state, -, offered, on⟩ := allocate_heater reserve s i
  have within := heaterGrant_le_offered reserve s i
  have asked : demandOf i s = 0 := by cases i <;> exact heaterDemand_eq_zero (.inr (.inr inhibited)) ..
  have none : heaterGrant i (allocate reserve s).bud.last = 0 := by
    rw [offered, asked] at within
    omega
  have left : (heaterOf i (allocate reserve s)).ch.state = if (heaterOf i s).ch.state = .lockedOff then .lockedOff else .inhibited := by
    rw [state, inhibited]
    rfl
  refine ⟨none, applied.trans none, on.trans (conducts_of_inhibited ?_), base.trans none, left⟩
  rw [left]
  split
  · exact .inr rfl
  · exact .inl rfl

/-- The channels as HEAT_INH# forces them off, before the allocation. -/
def inhibitBegun (s : State) : State :=
  { s with chan := { s.chan with inhibit := true, inhRise := none, h0 := inhibitHeater s.chan.h0, h1 := inhibitHeater s.chan.h1 } }

theorem inhibitHeaters_eq (s : State) : inhibitHeaters s = allocate s.lines.pwrEn (syncSwitches (inhibitBegun s)) := rfl

theorem inhibitBegun_state (i : HeaterId) (s : State) :
    (heaterOf i (syncSwitches (inhibitBegun s))).ch.state = if (heaterOf i s).ch.state = .lockedOff then .lockedOff else .inhibited := by
  cases i <;> rfl

/-- A heater forced off stays as it was forced. -/
theorem inhibited_state (st : ChannelState) :
    (if (if st = .lockedOff then ChannelState.lockedOff else .inhibited) = .lockedOff then ChannelState.lockedOff else .inhibited)
      = if st = .lockedOff then .lockedOff else .inhibited := by
  by_cases locked : st = .lockedOff
  · rw [if_pos locked, if_pos rfl]
  · rw [if_neg locked]
    rfl

/-- What the fall of HEAT_INH# changes: an allocation's fields and the inhibit (R54). -/
theorem inhibit_frame {s t : State} (h : t = ((syncSwitches (inhibitBegun s)).allocatedAs t).deliveredAs t) :
    t = { (s.allocatedAs t).deliveredAs t with chan.inhibit := true, chan.inhRise := none } := by
  refine h.trans ?_
  rw [syncSwitches_eq]
  rfl

/-- The channels as the release of HEAT_INH# leaves them, before the allocation. -/
def releaseBegun (s : State) : State :=
  { s with chan := { s.chan with inhibit := false, inhRise := none, h0 := releaseHeater s.chan.h0, h1 := releaseHeater s.chan.h1 } }

theorem releaseHeaters_eq (s : State) : releaseHeaters s = allocate s.lines.pwrEn (releaseBegun s) := rfl

/-- A heater released climbs from 0 under the ramp (R41, R55). -/
theorem allocate_heater_released {reserve : Bool} {s : State} {i : HeaterId} (inhibited : (heaterOf i s).ch.state = .inhibited) :
    (heaterOf i (allocate reserve (releaseBegun s))).ch.state ∈ [ChannelState.off, .active]
      ∧ (heaterOf i (allocate reserve (releaseBegun s))).ch.offered ≤ 8 := by
  obtain ⟨-, -, state, -, offered, -⟩ := allocate_heater reserve (releaseBegun s) i
  have base : (heaterOf i (releaseBegun s)).base = 0 := by
    cases i <;> exact congrArg Heater.base (if_pos inhibited)
  have off : (heaterOf i (releaseBegun s)).ch.state = .off := by
    cases i <;> exact congrArg (fun x : Heater => x.ch.state) (if_pos inhibited)
  have left : (heaterOf i (allocate reserve (releaseBegun s))).ch.state
      = if heaterGrant i (allocate reserve (releaseBegun s)).bud.last = 0 then .off else .active :=
    (stateAfter_laws state).1 (by rw [off]; exact fun h => ChannelState.noConfusion h) rfl
  refine ⟨?_, ?_⟩
  · rw [left]
    split
    · exact List.mem_cons_self
    · exact List.mem_cons_of_mem _ List.mem_cons_self
  · rw [offered, base]
    exact min_le_right ..

theorem releaseHeater_allocatedAs (x y : Heater) : (releaseHeater x).allocatedAs y = x.allocatedAs y := by
  unfold releaseHeater
  split <;> rfl

/-- What the release of HEAT_INH# changes: an allocation's fields and the inhibit (R55). -/
theorem release_frame {s t : State} (h : t = ((releaseBegun s).allocatedAs t).deliveredAs t) :
    t = { (s.allocatedAs t).deliveredAs t with chan.inhibit := false, chan.inhRise := none } := by
  refine h.trans ?_
  simp only [State.allocatedAs, releaseBegun, releaseHeater_allocatedAs]
  rfl

/-- Settles O28: the fall, the rise and the release. -/
theorem heatInhibit : Obligations.HeatInhibit := by
  intro s hp
  refine ⟨fun high => ?_, fun low => ?_, fun inhibited ran => ?_⟩
  · let u : State := { s with pins.heatInhLow := true }
    have row : exec .heatInhAssert s = .next (settle (inhibitHeaters u)) := by
      unfold exec execHeatInhAssert
      rw [if_neg (by rw [high]; exact Bool.false_ne_true)]
      exact whenOn_of_powered (s := u) hp _
    refine ⟨settle (inhibitHeaters u), row, ?_⟩
    rw [inhibitHeaters_eq]
    have delivered := settle_deliveries (allocate u.lines.pwrEn (syncSwitches (inhibitBegun u)))
    have frame := inhibit_frame (allocated_delivered delivered)
    obtain ⟨none0, applied0, on0, base0, state0⟩ :=
      allocate_heater_inhibited (reserve := u.lines.pwrEn) (s := syncSwitches (inhibitBegun u)) rfl .h0
    obtain ⟨none1, applied1, on1, base1, state1⟩ :=
      allocate_heater_inhibited (reserve := u.lines.pwrEn) (s := syncSwitches (inhibitBegun u)) rfl .h1
    obtain ⟨charge0, charge1⟩ := allocate_charge_eq_zero (reserve := u.lines.pwrEn) (s := syncSwitches (inhibitBegun u))
    replace charge0 := charge0 none0
    replace charge1 := charge1 none1
    rw [inhibitBegun_state, inhibited_state] at state0 state1
    have chan := eq_of_delivered State.chan (fun _ _ => rfl) delivered
    have bud := eq_of_delivered State.bud (fun _ _ => rfl) delivered
    have exactly := delivered
    generalize settle (allocate u.lines.pwrEn (syncSwitches (inhibitBegun u))) = t at delivered exactly frame chan bud ⊢
    generalize allocate u.lines.pwrEn (syncSwitches (inhibitBegun u)) = v at delivered chan bud applied0 on0 base0 state0 charge0 applied1 on1 base1 state1 charge1
    simp only [heaterOf, ← chan, ← bud] at applied0 on0 base0 state0 charge0 applied1 on1 base1 state1 charge1
    exact ⟨congrArg (fun t => t.pins.heatInhLow) frame, congrArg (fun t => t.chan.inhibit) frame, congrArg (fun t => t.chan.inhRise) frame,
      applied0, on0, base0, applied1, on1, base1, state0, state1, charge0, charge1, frame, exactly⟩
  · unfold exec execHeatInhRise
    rw [if_pos low]
    exact whenOn_of_powered (s := { s with pins.heatInhLow := false }) hp _
  · have row : exec .heatInhRelease s = .next (settle (releaseHeaters s)) :=
      whenOn_test_pos (test := releaseDue) (f := fun s => settle (releaseHeaters s)) hp ((releaseDue_iff s).mpr ⟨inhibited, ran⟩)
    refine ⟨settle (releaseHeaters s), row, ?_⟩
    rw [releaseHeaters_eq]
    have delivered := settle_deliveries (allocate s.lines.pwrEn (releaseBegun s))
    have frame := release_frame (allocated_delivered delivered)
    have released0 := allocate_heater_released (reserve := s.lines.pwrEn) (s := s) (i := .h0)
    have released1 := allocate_heater_released (reserve := s.lines.pwrEn) (s := s) (i := .h1)
    have chan := eq_of_delivered State.chan (fun _ _ => rfl) delivered
    have exactly := delivered
    generalize settle (allocate s.lines.pwrEn (releaseBegun s)) = t at delivered exactly frame chan ⊢
    generalize allocate s.lines.pwrEn (releaseBegun s) = v at delivered chan released0 released1
    simp only [heaterOf, ← chan] at released0 released1
    exact ⟨congrArg (fun t => t.chan.inhibit) frame, congrArg (fun t => t.chan.inhRise) frame, released0, released1, frame, exactly⟩

end Sys2Proof.Machine
end

section
/-! The instant of an event: what a good frame brings leaves it, whatever the frame is. -/

namespace Sys2Proof.Machine

/-- `t` is at the same instant as `s`. -/
def SameNow (s t : State) : Prop := t.clock.now = s.clock.now

theorem SameNow.refl (s : State) : SameNow s s := rfl

theorem SameNow.trans {s t u : State} (h : SameNow s t) (k : SameNow t u) : SameNow s u := Eq.trans k h

theorem SameNow.ite {P : Prop} [Decidable P] {s t u : State} (h : SameNow s t) (k : SameNow s u) : SameNow s (if P then t else u) := by
  split
  · exact h
  · exact k

theorem SameNow.of_clock {s t : State} (h : t.clock = s.clock) : SameNow s t := congrArg Clock.now h

theorem SameNow.of_delivered {s t : State} (h : SameButDeliveries s t) : SameNow s t := by
  unfold SameButDeliveries at h
  exact congrArg (fun t => t.clock.now) h

theorem settle_sameNow (s : State) : SameNow s (settle s) := .of_delivered (settle_deliveries s)

theorem sendNotice_sameNow (s : State) : SameNow s (sendNotice s) := .of_delivered (sendNotice_deliveries s)

theorem reply_sameNow (cls : Byte) (r : Result) (data : List Byte) (s : State) : SameNow s (reply cls r data s) := rfl

theorem refuse_sameNow (cls : Byte) (r : Result) (s : State) : SameNow s (refuse cls r s) := rfl

theorem allocate_sameNow (reserve : Bool) (s : State) : SameNow s (allocate reserve s) := .of_clock (allocate_clock ..)

theorem SameNow.of_entered {s t : State} (h : t = s.enteredAs t) : SameNow s t := enteredAs_now h

/-! ## Requests (R16, R118) -/

theorem carryOut_sameNow (a : RestartAction) (s : State) : SameNow s (carryOut a s) := by
  cases a
  · rw [carryOut_reset_eq]
    exact .ite (.of_entered (enteredAs_of_begun (enterRestart_begun s))) (.refl s)
  · rw [carryOut_powerCycle_eq]
    exact .ite (.of_entered (enterPowerCycle_off s).2.1) (.refl s)
  · rw [carryOut_cooldown_eq]
    exact .ite (.of_entered (enterCooldown_off s).2.1) (.refl s)
  · rw [carryOut_lockout_eq]
    exact .ite (.of_entered (enterOff_enteredAs .lockout s)) (.refl s)

theorem addRecord_sameNow (r : RestartRecord) (s : State) : SameNow s (addRecord r s) := rfl

theorem request_sameNow (c : RestartCause) (s : State) : SameNow s (request c s) := by
  simp only [request]
  exact .ite ((addRecord_sameNow ..).trans (carryOut_sameNow ..)) (.refl s)

/-! ## Heartbeats (R110 to R112) -/

theorem enterRun_sameNow (s : State) : SameNow s (enterRun s) := by
  rw [enterRun_eq, beginPhase_eq]
  exact rfl

theorem acceptHeartbeat_sameNow (s : State) : SameNow s (acceptHeartbeat s) := by
  simp only [acceptHeartbeat]
  split
  · exact enterRun_sameNow _
  all_goals exact rfl

theorem setToken_sameNow (src : HeartbeatSource) (t : Option Byte) (s : State) : SameNow s (setToken src t s) := .of_clock (setToken_clock ..)

theorem offerHeartbeat_sameNow (src : HeartbeatSource) (token : Option Byte) (s : State) : SameNow s (offerHeartbeat src token s).1 := by
  have remembered : SameNow s (if token.isSome then setToken src token s else s) := .ite (setToken_sameNow ..) (.refl s)
  simp only [offerHeartbeat]
  split
  · split
    · exact remembered.trans (acceptHeartbeat_sameNow _)
    · exact remembered
  · exact .refl s

/-! ## Frames passed on -/

theorem countOn_sameNow (p : PortId) (g : Counters → Counters) (s : State) : SameNow s (countOn p g s) := .of_clock (setPort_clock ..)

theorem raiseIf_sameNow (b : Bool) (c : Cause) (s : State) : SameNow s (raiseIf b c s) := .of_clock (raiseIf_clock ..)

theorem offerDown_sameNow (received : Bool) (f : DownFrame) (s : State) : SameNow s (offerDown received f s).1 := by
  unfold offerDown
  split
  · exact countOn_sameNow ..
  · split
    · exact rfl
    · split
      · exact countOn_sameNow ..
      · exact .refl s

theorem offerForwarded_sameNow (received : Bool) (f : Frame) (s : State) : SameNow s (offerForwarded received f s).1 := by
  unfold offerForwarded
  split
  · exact countOn_sameNow ..
  · split
    · exact rfl
    · split
      · exact countOn_sameNow ..
      · exact .refl s

theorem forward_sameNow (dir : Direction) (f : Frame) (s : State) : SameNow s (forward dir f s) := by
  cases dir
  · exact offerDown_sameNow ..
  · exact .ite (.refl s) (offerForwarded_sameNow ..)

theorem onCounts_sameNow (i : Nat) (g : EntryCounts → EntryCounts) (s : State) : SameNow s (onCounts i g s) := by
  unfold onCounts
  split
  · exact .refl s
  · exact rfl

theorem countSpecialIf_sameNow (b : Bool) (i : Nat) (s : State) : SameNow s (countSpecialIf b i s) := .ite (onCounts_sameNow ..) (.refl s)

theorem answer_sameNow (entry index : Nat) (dir : Direction) (f : Frame) (s : State) : SameNow s (answer entry index dir f s) := by
  cases dir
  · exact (offerForwarded_sameNow ..).trans (countSpecialIf_sameNow ..)
  · exact (offerDown_sameNow ..).trans (countSpecialIf_sameNow ..)

theorem heartbeatAction_sameNow (i : Nat) (d : PassDef) (f : Frame) (s : State) : SameNow s (heartbeatAction i d f s) := by
  have offered := ((offerHeartbeat_sameNow (.entry i) (offerToken d f) s).trans
    (countSpecialIf_sameNow ((offerHeartbeat (.entry i) (offerToken d f) s).2 == some false) i _)).trans (sendNotice_sameNow _)
  exact .ite (offered.trans (forward_sameNow ..)) offered

theorem computerLevel_sameNow (f : Frame) (i : Nat) (s : State) : SameNow s (computerLevel f i s).1 := by
  have taken : SameNow s (levelTaken f i s) := rfl
  have offered (g : Frame) := taken.trans (offerDown_sameNow true { frame := g, mark := .computer } (levelTaken f i s))
  rw [computerLevel_eq]
  exact .ite (offered _) (offered _)

theorem clampAction_sameNow (i : Nat) (d : PassDef) (f : Frame) (s : State) : SameNow s (clampAction i d f s) :=
  .ite ((computerLevel_sameNow ..).trans (countSpecialIf_sameNow ..)) (onCounts_sameNow ..)

theorem performAction_sameNow (i : Nat) (d : PassDef) (dir : Direction) (f : Frame) (s : State) : SameNow s (performAction i d dir f s) := by
  unfold performAction
  split
  · exact forward_sameNow ..
  · exact .refl s
  · exact answer_sameNow ..
  · split
    · exact heartbeatAction_sameNow ..
    · exact .refl s
  · split
    · exact clampAction_sameNow ..
    · exact .refl s

theorem passFrame_sameNow (dir : Direction) (f : Frame) (s : State) : SameNow s (passFrame dir f s) := by
  unfold passFrame
  split
  · exact (onCounts_sameNow ..).trans (performAction_sameNow ..)
  · split
    · exact forward_sameNow ..
    · exact .refl s

/-! ## Commands -/

theorem setChannel_sameNow (c : ChannelId) (x : Channel) (s : State) : SameNow s (setChannel c x s) := .of_clock (setChannel_clock ..)

theorem refreshSummary_sameNow (c : ChannelId) (s : State) : SameNow s (refreshSummary c s) :=
  (setChannel_sameNow ..).trans (raiseIf_sameNow ..)

theorem refreshSummaries_sameNow (s : State) : SameNow s (refreshSummaries s) :=
  (refreshSummary_sameNow ..).trans <| (refreshSummary_sameNow ..).trans (refreshSummary_sameNow ..)

theorem admitEvent_sameNow (delivering : Bool) (e : KeyEvent) (s : State) : SameNow s (admitEvent delivering e s) := by
  unfold admitEvent
  split_ifs <;> exact rfl

theorem offerMade_sameNow (p : Nat) (code : Byte) (m : Option Made) (coldPress coldRel : Bool) (s : State) :
    SameNow s (offerMade p code m coldPress coldRel s) := by
  unfold offerMade
  split
  · exact .refl s
  · exact admitEvent_sameNow ..

theorem setKeymapEntry_sameNow (pos : Nat) (ent : KeymapEntry) (s : State) : SameNow s (setKeymapEntry pos ent s) := by
  simp only [setKeymapEntry]
  split
  · split
    · exact rfl
    · exact offerMade_sameNow ..
  · exact rfl

theorem setKeymapEntries_sameNow (p : List Byte) (first : Nat) : ∀ (n : Nat) (s : State), SameNow s (setKeymapEntries p first n s)
  | 0, s => .refl s
  | n + 1, s => (setKeymapEntries_sameNow p first n s).trans (setKeymapEntry_sameNow ..)

theorem clearLock_sameNow (c : ChannelId) (s : State) : SameNow s (clearLock c s) := by
  simp only [clearLock]
  exact .ite (SameNow.trans (setChannel_sameNow ..) (.of_clock (zeroBase_clock ..))) (setChannel_sameNow ..)

theorem cmdPulse_sameNow (p : List Byte) (s : State) : SameNow s (cmdPulse p s) :=
  .ite (refuse_sameNow ..) (((offerHeartbeat_sameNow ..).trans (reply_sameNow ..)).trans (settle_sameNow _))

theorem cmdRestart_sameNow (p : List Byte) (armed : Bool) (s : State) : SameNow s (cmdRestart p armed s) :=
  .ite (refuse_sameNow ..) <| .ite (refuse_sameNow ..) <| .ite (refuse_sameNow ..) <| .ite (refuse_sameNow ..) <|
    (reply_sameNow ..).trans (request_sameNow ..)

theorem setChannels_sameNow (g : ThermalChannels) (s : State) : SameNow s (refreshSummaries { s with cfg.channels := g }) :=
  refreshSummaries_sameNow { s with cfg.channels := g }

theorem setSensing_sameNow (g : ThermalSensing) (s : State) : SameNow s (allocateNow { s with cfg.sensing := g }) :=
  allocate_sameNow _ { s with cfg.sensing := g }

theorem setBudget_sameNow (g : BudgetParams) (s : State) : SameNow s (allocateNow { s with cfg.budget := g }) :=
  allocate_sameNow _ { s with cfg.budget := g }

/-- A command that replies, makes an allocation and settles. -/
theorem answered_sameNow {s u : State} (h : SameNow s u) (cls : Byte) (r : Result) (data : List Byte) : SameNow s (reply cls r data u) := h

theorem cmdSetThermal_sameNow (p : List Byte) (s : State) : SameNow s (cmdSetThermal p s) := by
  simp only [cmdSetThermal]
  refine .ite (refuse_sameNow ..) (.ite ?_ (.ite ?_ (refuse_sameNow ..)))
  · generalize clampedIf (clampChannels (readChannels p) != readChannels p) = r
    generalize clampChannels (readChannels p) = g
    exact (answered_sameNow (setChannels_sameNow g s) 0x50 r (writeChannels g)).trans <|
      (sendNotice_sameNow _).trans <| (allocate_sameNow ..).trans (settle_sameNow _)
  · split
    · exact refuse_sameNow ..
    · next policy _ =>
      generalize clampedIf (clampSensing (readSensing p policy) != readSensing p policy) = r
      generalize clampSensing (readSensing p policy) = g
      exact (answered_sameNow (setSensing_sameNow g s) 0x50 r (writeSensing g)).trans (settle_sameNow _)

theorem cmdSetBudget_sameNow (p : List Byte) (s : State) : SameNow s (cmdSetBudget p s) :=
  .ite (refuse_sameNow ..) ((answered_sameNow (setBudget_sameNow _ s) _ _ _).trans (settle_sameNow _))

theorem cmdGetChannelDiag_sameNow (p : List Byte) (s : State) : SameNow s (cmdGetChannelDiag p s) := by
  refine .ite (refuse_sameNow ..) (answered_sameNow ?_ _ _ _)
  have settled : SameNow s { s with
    chan.h0.ch := clearSettledFlags s.chan.h0.ch, chan.h1.ch := clearSettledFlags s.chan.h1.ch
    chan.fan.ch := clearSettledFlags s.chan.fan.ch } := rfl
  exact settled.trans (refreshSummaries_sameNow _)

theorem cmdClearChannelLock_sameNow (p : List Byte) (s : State) : SameNow s (cmdClearChannelLock p s) := by
  refine .ite (refuse_sameNow ..) ?_
  split
  · exact refuse_sameNow ..
  · next c _ =>
    exact answered_sameNow ((clearLock_sameNow c s).trans (.of_clock (congrArg (fun t => t.clock) (syncSwitches_eq _)))) _ _ _

theorem cmdSetKeymap_sameNow (p : List Byte) (s : State) : SameNow s (cmdSetKeymap p s) :=
  .ite (refuse_sameNow ..) <| .ite (refuse_sameNow ..) <| (answered_sameNow (setKeymapEntries_sameNow ..) _ _ _).trans (settle_sameNow _)

theorem cmdGetCause_sameNow (p : List Byte) (s : State) : SameNow s (cmdGetCause p s) := by
  simp only [cmdGetCause]
  refine .ite (refuse_sameNow ..) ?_
  refine SameNow.trans (answered_sameNow ?_ _ _ _) (sendNotice_sameNow _)
  split <;> exact rfl

theorem cmdSetCauseEnables_sameNow (p : List Byte) (s : State) : SameNow s (cmdSetCauseEnables p s) := by
  refine .ite (refuse_sameNow ..) ?_
  exact SameNow.trans (answered_sameNow (u := { s with cfg.enables := BitVec.ofNat 13 (u16At p 0) }) rfl _ _ _) (sendNotice_sameNow _)

theorem cmdSetPassEntry_sameNow (p : List Byte) (s : State) : SameNow s (cmdSetPassEntry p s) := by
  refine .ite (refuse_sameNow ..) (.ite (refuse_sameNow ..) ?_)
  split <;> exact rfl

theorem cmdSetDefaultActions_sameNow (p : List Byte) (s : State) : SameNow s (cmdSetDefaultActions p s) := by
  refine .ite (refuse_sameNow ..) ?_
  split <;> exact rfl

theorem cmdSetWatchdog_sameNow (p : List Byte) (s : State) : SameNow s (cmdSetWatchdog p s) := by
  refine .ite (refuse_sameNow ..) ?_
  split <;> exact rfl

theorem cmdSetChord_sameNow (p : List Byte) (s : State) : SameNow s (cmdSetChord p s) := by
  refine .ite (refuse_sameNow ..) (.ite (refuse_sameNow ..) ?_)
  split <;> exact rfl

theorem endSuspension_sameNow (at_ : Nat) (s : State) : SameNow s (endSuspension at_ s) := rfl

theorem cmdResumeWatchdog_sameNow (p : List Byte) (s : State) : SameNow s (cmdResumeWatchdog p s) :=
  .ite (refuse_sameNow ..) <| .ite (refuse_sameNow ..) <| answered_sameNow (.ite (endSuspension_sameNow ..) (.refl s)) _ _ _

theorem runCommand_sameNow (cls : Byte) (p : List Byte) (armed : Bool) (s : State) : SameNow s (runCommand cls p armed s) := by
  have refused (r : Result) (cls : Byte) : SameNow s (refuse cls r s) := refuse_sameNow ..
  unfold runCommand
  split
  · exact .ite (refused ..) rfl
  · exact cmdGetCause_sameNow p s
  · exact cmdSetCauseEnables_sameNow p s
  · exact .ite (refused ..) rfl
  · exact .ite (refused ..) (.ite (refused ..) rfl)
  · exact cmdPulse_sameNow p s
  · exact .ite (refused ..) rfl
  · exact .ite (refused ..) rfl
  · exact cmdSetPassEntry_sameNow p s
  · exact .ite (refused ..) (.ite (refused ..) rfl)
  · exact .ite (refused ..) (.ite (refused ..) (.ite (refused ..) (.ite (refused ..) rfl)))
  · exact .ite (refused ..) (.ite (refused ..) rfl)
  · exact cmdSetDefaultActions_sameNow p s
  · exact cmdSetThermal_sameNow p s
  · exact .ite (refused ..) (.ite rfl (.ite rfl (refused ..)))
  · exact cmdSetBudget_sameNow p s
  · exact cmdGetChannelDiag_sameNow p s
  · exact cmdClearChannelLock_sameNow p s
  · exact .ite (refused ..) rfl
  · exact cmdSetWatchdog_sameNow p s
  · exact .ite (refused ..) (.ite (refused ..) rfl)
  · exact cmdResumeWatchdog_sameNow p s
  · exact .ite (refused ..) rfl
  · exact cmdRestart_sameNow p armed s
  · exact cmdSetKeymap_sameNow p s
  · exact cmdSetChord_sameNow p s
  · exact .ite (refused ..) (.ite (refused ..) rfl)
  · exact refused ..

/-! ## Good frames (R82) -/

theorem reportLate_sameNow (s : State) : SameNow s (reportLate s) := by
  unfold reportLate
  split
  · split <;> exact rfl
  · exact .refl s

theorem handOver_sameNow {act : Bool → State → State} (h : ∀ b s, SameNow s (act b s)) (s : State) : SameNow s (handOver act s) :=
  .ite (h s.sup.arm.isSome { s with sup.arm := none }) (SameNow.trans (countOn_sameNow .c Counters.incOverflow s) (settle_sameNow _))

theorem commandFrame_sameNow (f : Frame) (s : State) : SameNow s (commandFrame f s) :=
  .ite (handOver_sameNow (fun armed s => runCommand_sameNow f.cls f.payload armed s) s) (countOn_sameNow ..)

theorem routeC_sameNow (f : Frame) (s : State) : SameNow s (routeC f s) :=
  .ite ((countOn_sameNow ..).trans (reportLate_sameNow _)) <| .ite (countOn_sameNow ..) <| .ite (commandFrame_sameNow f s) <|
    .ite ((passFrame_sameNow ..).trans (settle_sameNow _)) (countOn_sameNow ..)

theorem routeB_sameNow (f : Frame) (s : State) : SameNow s (routeB f s) :=
  .ite (countOn_sameNow ..) <| .ite ((passFrame_sameNow ..).trans (settle_sameNow _)) (countOn_sameNow ..)

theorem goodFrame_sameNow (p : PortId) (f : Frame) (s : State) : SameNow s (goodFrame p f s) := by
  cases p
  · exact (countOn_sameNow ..).trans (routeC_sameNow ..)
  · exact (countOn_sameNow ..).trans (routeB_sameNow ..)

end Sys2Proof.Machine
end

section
/-! The panel link's check and receiver: the check is linear in what it reads, and the receiver takes frames byte by byte. -/

namespace Sys2Proof.Machine

/-! ## The check (R77) -/

/-- The polynomial, where it is added. -/
def crcTerm (b : Bool) : Word16 := if b then 0x8005#16 else 0#16

theorem crcBit_eq (r : Word16) (b : Bool) : crcBit r b = (r <<< 1) ^^^ crcTerm (b ^^ r.msb) := by
  unfold crcBit crcTerm
  cases b <;> cases r.msb <;> simp

theorem crcTerm_xor (b b' : Bool) : crcTerm (b ^^ b') = crcTerm b ^^^ crcTerm b' := by cases b <;> cases b' <;> decide

/-- One bit of the check is linear in the register and the bit. -/
theorem crcBit_xor (r r' : Word16) (b b' : Bool) : crcBit (r ^^^ r') (b ^^ b') = crcBit r b ^^^ crcBit r' b' := by
  have top : ((b ^^ b') ^^ (r ^^^ r').msb) = ((b ^^ r.msb) ^^ (b' ^^ r'.msb)) := by
    rw [BitVec.msb_xor]
    cases b <;> cases b' <;> cases r.msb <;> cases r'.msb <;> rfl
  rw [crcBit_eq, crcBit_eq, crcBit_eq, top, crcTerm_xor, BitVec.shiftLeft_xor_distrib]
  ac_rfl

theorem crcBits_xor (x x' : Byte) : ∀ (l : List Nat) (r r' : Word16),
    l.foldl (fun r i => crcBit r ((x ^^^ x').getLsbD i)) (r ^^^ r') =
      l.foldl (fun r i => crcBit r (x.getLsbD i)) r ^^^ l.foldl (fun r i => crcBit r (x'.getLsbD i)) r'
  | [], _, _ => rfl
  | i :: l, r, r' => by
    simp only [List.foldl_cons, BitVec.getLsbD_xor, crcBit_xor]
    have rest := crcBits_xor x x' l (crcBit r (x.getLsbD i)) (crcBit r' (x'.getLsbD i))
    simpa only [BitVec.getLsbD_xor] using rest

theorem crcByte_xor (r r' : Word16) (x x' : Byte) : crcByte (r ^^^ r') (x ^^^ x') = crcByte r x ^^^ crcByte r' x' :=
  crcBits_xor x x' _ r r'

/-- A difference of the register is not lost in a bit: the polynomial has its constant term. -/
theorem crcBit_eq_zero {d : Word16} (h : crcBit d false = 0) : d = 0 := by
  rw [crcBit_eq, Bool.false_xor] at h
  have top : d.msb = false := by
    have low := congrArg (fun r => r.getLsbD 0) h
    cases top : d.msb
    · rfl
    · rw [top] at low
      simp [crcTerm] at low
  rw [top, crcTerm, if_neg Bool.false_ne_true, BitVec.xor_zero] at h
  refine BitVec.eq_of_getLsbD_eq fun i hi => ?_
  rcases Nat.lt_or_ge (i + 1) 16 with inside | last
  · have moved := congrArg (fun r => r.getLsbD (i + 1)) h
    rw [BitVec.getLsbD_eq_getElem hi]
    simpa [inside] using moved
  · obtain rfl : i = 15 := by omega
    exact top

theorem crcBits_eq_zero : ∀ (l : List Nat) {d : Word16}, l.foldl (fun r i => crcBit r ((0 : Byte).getLsbD i)) d = 0 → d = 0
  | [], _, h => h
  | i :: l, d, h => by
    rw [List.foldl_cons] at h
    have step := crcBits_eq_zero l h
    have zero : (0 : Byte).getLsbD i = false := BitVec.getLsbD_zero
    rw [zero] at step
    exact crcBit_eq_zero step

/-- Two registers that differ stay different through a byte. -/
theorem crcByte_inj {r r' : Word16} (x : Byte) (h : crcByte r x = crcByte r' x) : r = r' := by
  refine BitVec.xor_eq_zero_iff.mp (crcBits_eq_zero [7, 6, 5, 4, 3, 2, 1, 0] ?_)
  have difference := crcByte_xor r r' x x
  rw [BitVec.xor_self, h, BitVec.xor_self] at difference
  exact difference

theorem crcByte_byte_ne_zero : ∀ d : Byte, d ≠ 0 → crcByte 0 d ≠ 0 := by decide

/-- Two bytes that differ leave registers that differ. -/
theorem crcByte_ne (r : Word16) {x y : Byte} (h : x ≠ y) : crcByte r x ≠ crcByte r y := by
  intro same
  have difference := crcByte_xor r r x y
  rw [BitVec.xor_self, same, BitVec.xor_self] at difference
  exact crcByte_byte_ne_zero (x ^^^ y) (fun zero => h (BitVec.xor_eq_zero_iff.mp zero)) difference

theorem foldl_crcByte_inj : ∀ (l : List Byte) {r r' : Word16}, l.foldl crcByte r = l.foldl crcByte r' → r = r'
  | [], _, _, h => h
  | x :: l, _, _, h => crcByte_inj x (foldl_crcByte_inj l h)

/-- Settles O30: the changed byte parts the registers, and no byte after it brings them together. -/
theorem checkSeesEveryChangedByte : Obligations.CheckSeesEveryChangedByte := by
  intro before after x y differ same
  rw [crc16, crc16, List.foldl_append, List.foldl_append, List.foldl_cons, List.foldl_cons] at same
  exact crcByte_ne _ differ (foldl_crcByte_inj after same)

/-! ## The bytes of a frame -/

theorem frameBytes_length (f : Frame) : (frameBytes f).length = 7 + f.payload.length := by
  simp [frameBytes, checkedBytes, be16]
  omega

theorem frameBytes_eq (f : Frame) :
    frameBytes f = syncByte :: f.dst :: f.src :: f.cls :: byte f.payload.length :: (f.payload ++ be16 f.check.toNat) := rfl

theorem byte_toNat {n : Nat} (small : n ≤ 255) : (byte n).toNat = n := by
  rw [byte, BitVec.toNat_ofNat]
  omega

/-- The length that the bytes of a frame announce. -/
theorem frameBytes_announces {f : Frame} (short : f.payload.length ≤ 32) (more : List Byte) :
    ((frameBytes f ++ more).getD 4 0).toNat = f.payload.length := byte_toNat (by omega)

/-- The frame that the bytes of a frame spell. -/
theorem frameOf_frameBytes (f : Frame) (more : List Byte) : frameOf (frameBytes f ++ more) f.payload.length = f := by
  have payload : ((frameBytes f ++ more).drop 5).take f.payload.length = f.payload := by
    rw [frameBytes_eq]
    simp only [List.cons_append, List.drop_succ_cons, List.drop_zero, List.append_assoc, List.take_left']
  have hi : (frameBytes f ++ more).getD (5 + f.payload.length) 0 = byte (f.check.toNat / 256) := by
    rw [frameBytes_eq, Nat.add_comm]
    simp [be16]
  have lo : (frameBytes f ++ more).getD (5 + f.payload.length + 1) 0 = byte f.check.toNat := by
    rw [frameBytes_eq, Nat.add_right_comm, Nat.add_comm]
    simp [be16]
  have check : BitVec.ofNat 16 (u16At (frameBytes f ++ more) (5 + f.payload.length)) = f.check := by
    have bound := f.check.isLt
    refine BitVec.eq_of_toNat_eq ?_
    simp only [u16At, hi, lo, byte, BitVec.toNat_ofNat]
    omega
  obtain ⟨dst, src, cls, p, c⟩ := f
  simp only [frameOf, payload, check]
  rfl

/-! ## The search (R78, R79) -/

/-- The receiver's search of the bytes, with all the searches it can need. -/
def search (p : PortId) (l : List Byte) (s : State) : List Byte × State := examine p l.length l s

/-- One search: what the bytes from the first SYNC on are. -/
theorem search_eq (p : PortId) (l : List Byte) (s : State) :
    let q := dropToSync l
    let n := (q.getD 4 0).toNat
    search p l s =
      if q.length < 5 then (q, s)
      else if 32 < n then search p q.tail (countOn p Counters.incLength s)
      else if q.length < 7 + n then (q, s)
      else if checkMatches (frameOf q n) then search p (q.drop (7 + n)) (goodFrame p (frameOf q n) s)
      else search p q.tail (countOn p Counters.incCheck s) := by
  cases l with
  | nil => rfl
  | cons b l =>
    have within := dropToSync_length (b :: l)
    simp only [search, List.length_cons, examine] at within ⊢
    generalize dropToSync (b :: l) = q at within ⊢
    have tail : q.tail.length = q.length - 1 := List.length_tail
    rw [examine_fuel p l.length q.tail.length q.tail (countOn p Counters.incLength s) (by omega) le_rfl,
      examine_fuel p l.length q.tail.length q.tail (countOn p Counters.incCheck s) (by omega) le_rfl]
    split
    · rfl
    · rw [examine_fuel p l.length (q.drop (7 + (q.getD 4 0).toNat)).length _ _ (by rw [List.length_drop]; omega) le_rfl]

theorem receive_eq (p : PortId) (l : List Byte) (s : State) :
    receive p l s = setPort p { portOf p (search p l s).2 with assembly := (search p l s).1, lastByte := s.clock.now } (search p l s).2 := rfl

theorem search_of_not_mem {p : PortId} {l : List Byte} {s : State} (none : syncByte ∉ l) : search p l s = ([], s) := by
  rw [search_eq]
  simp [dropToSync_of_not_mem none]

/-- Bytes that begin at a SYNC and are too few yet. -/
theorem search_of_few {p : PortId} {rest : List Byte} {s : State} (few : rest.length < 4) : search p (syncByte :: rest) s = (syncByte :: rest, s) := by
  have drop : dropToSync (syncByte :: rest) = syncByte :: rest := if_pos rfl
  rw [search_eq]
  simp only [drop, List.length_cons]
  rw [if_pos (by omega)]

theorem search_of_long {p : PortId} {d r c n : Byte} {tail : List Byte} {s : State} (long : 32 < n.toNat) :
    search p (syncByte :: d :: r :: c :: n :: tail) s = search p (d :: r :: c :: n :: tail) (countOn p Counters.incLength s) := by
  have drop : dropToSync (syncByte :: d :: r :: c :: n :: tail) = syncByte :: d :: r :: c :: n :: tail := if_pos rfl
  rw [search_eq]
  simp only [drop, List.length_cons, List.getD_cons_succ, List.getD_cons_zero]
  rw [if_neg (by omega), if_pos long]
  rfl

theorem search_of_partial {p : PortId} {d r c n : Byte} {tail : List Byte} {s : State} (short : n.toNat ≤ 32) (part : tail.length < n.toNat + 2) :
    search p (syncByte :: d :: r :: c :: n :: tail) s = (syncByte :: d :: r :: c :: n :: tail, s) := by
  have drop : dropToSync (syncByte :: d :: r :: c :: n :: tail) = syncByte :: d :: r :: c :: n :: tail := if_pos rfl
  rw [search_eq]
  simp only [drop, List.length_cons, List.getD_cons_succ, List.getD_cons_zero]
  rw [if_neg (by omega), if_neg (by omega), if_pos (by omega)]

/-- Bytes that begin with a whole frame: taken where its check matches, and searched again from the byte after its SYNC where it does not. -/
theorem search_of_frame {p : PortId} {f : Frame} {s : State} (short : f.payload.length ≤ 32) (more : List Byte) :
    search p (frameBytes f ++ more) s =
      if checkMatches f then search p more (goodFrame p f s) else search p (frameBytes f ++ more).tail (countOn p Counters.incCheck s) := by
  have drop : dropToSync (frameBytes f ++ more) = frameBytes f ++ more := if_pos rfl
  have length := frameBytes_length f
  rw [search_eq]
  simp only [drop, frameBytes_announces short, frameOf_frameBytes, List.length_append, length]
  rw [if_neg (by omega), if_neg (by omega), if_neg (by omega), ← length, List.drop_left]

/-- The bytes of a frame so far, short of the last. -/
theorem search_of_prefix {p : PortId} {f : Frame} {k : Nat} {s : State} (short : f.payload.length ≤ 32) (part : k + 1 < 7 + f.payload.length) :
    search p ((frameBytes f).take (k + 1)) s = ((frameBytes f).take (k + 1), s) := by
  rw [frameBytes_eq]
  rcases Nat.lt_or_ge k 4 with few | enough
  · rw [List.take_succ_cons]
    exact search_of_few (by rw [List.length_take]; omega)
  · obtain ⟨j, rfl⟩ := Nat.exists_eq_add_of_le' enough
    simp only [List.take_succ_cons]
    have announced := byte_toNat (n := f.payload.length) (by omega)
    exact search_of_partial (by omega) (by rw [List.length_take, announced]; omega)

theorem exec_byteReceived {p : PortId} {b : Byte} {s : State} (hp : s.powered = true) :
    exec (.byteReceived p b true) s = .next (receive p ((portOf p s).assembly ++ [b]) s) :=
  whenOn_of_powered hp (fun s => receive p ((portOf p s).assembly ++ [b]) s)

theorem exec_frameReceived {p : PortId} {f : Frame} {s : State} (hp : s.powered = true) :
    exec (.frameReceived p f) s = .next (receive p (frameBytes f) s) := whenOn_of_powered hp (receive p (frameBytes f))

/-- Settles O31: the bytes so far are held until the last, which makes them the frame. -/
theorem bytesBuildTheFrame : Obligations.BytesBuildTheFrame := by
  intro p f k s hp short held
  have length := frameBytes_length f
  have next (inside : k < (frameBytes f).length) : (frameBytes f).take k ++ [(frameBytes f).getD k 0] = (frameBytes f).take (k + 1) := by
    rw [List.take_add_one, List.getElem?_eq_getElem inside, List.getD_eq_getElem _ _ inside]
    rfl
  rw [exec_byteReceived hp, held]
  refine ⟨fun part => ?_, fun whole => ?_⟩
  · rw [next (by omega), receive_eq, search_of_prefix short part]
  · rw [next (by omega), List.take_of_length_le (by omega), exec_frameReceived hp]

/-! ## The receiver's faults (R75, R78, R79) -/

theorem countOn_portOf (p : PortId) (g : Counters → Counters) (s : State) :
    portOf p (countOn p g s) = { portOf p s with counters := g (portOf p s).counters } := portOf_setPort ..

theorem setPort_countOn (p : PortId) (x : Port) (g : Counters → Counters) (s : State) : setPort p x (countOn p g s) = setPort p x s :=
  setPort_setPort ..

theorem countOn_now (p : PortId) (g : Counters → Counters) (s : State) : (countOn p g s).clock.now = s.clock.now :=
  congrArg Clock.now (setPort_clock ..)

/-- A search that counts a fault first, seen from the receiver. -/
theorem receive_of_search {p : PortId} {l m : List Byte} {s u : State} (search : search p l s = search p m u) (now : u.clock.now = s.clock.now) :
    receive p l s = receive p m u := by
  rw [receive_eq, receive_eq, search, now]

/-- A whole frame that ends what the receiver holds. -/
theorem receive_frame {p : PortId} {f : Frame} {s : State} (short : f.payload.length ≤ 32) :
    (checkMatches f = true → receive p (frameBytes f) s =
      setPort p { portOf p (goodFrame p f s) with assembly := [], lastByte := s.clock.now } (goodFrame p f s))
    ∧ (checkMatches f = false → receive p (frameBytes f) s = receive p (frameBytes f).tail (countOn p Counters.incCheck s)) := by
  have found := search_of_frame (p := p) (s := s) short []
  rw [List.append_nil] at found
  refine ⟨fun good => ?_, fun bad => ?_⟩
  · rw [good, if_pos rfl] at found
    rw [receive_eq, found, search_of_not_mem (List.not_mem_nil)]
  · rw [bad, if_neg Bool.false_ne_true] at found
    exact receive_of_search found (countOn_now ..)

/-- The bytes before the first SYNC are passed over. -/
theorem search_append {p : PortId} {before : List Byte} {s : State} (clean : syncByte ∉ before) (rest : List Byte) :
    search p (before ++ syncByte :: rest) s = search p (syncByte :: rest) s := by
  have drop : dropToSync (syncByte :: rest) = syncByte :: rest := if_pos rfl
  simp only [search_eq p (before ++ syncByte :: rest), search_eq p (syncByte :: rest), dropToSync_append clean, drop]

theorem search_of_four {p : PortId} {l : List Byte} {s : State} (few : l.length < 5) : search p l s = (dropToSync l, s) := by
  rw [search_eq]
  exact if_pos (Nat.lt_of_le_of_lt (dropToSync_length l) few)

/-- Settles O32, by the search of what the receiver holds. -/
theorem receiverFaults : Obligations.ReceiverFaults := by
  intro p s hp
  refine ⟨fun b => ?_, fun b empty other => ?_, fun f short good => ?_, fun f short bad none => ?_, fun f short bad => ?_, fun l => ⟨?_, ?_⟩,
    fun d r c n held long => ?_, fun held ran => ?_⟩
  · exact whenOn_of_powered hp _
  · have none : syncByte ∉ [b] := fun h => other (List.mem_singleton.mp h).symm
    rw [exec_byteReceived hp, empty, List.nil_append, receive_eq, search_of_not_mem none, ← empty]
  · rw [exec_frameReceived hp, (receive_frame short).1 good]
  · rw [exec_frameReceived hp, (receive_frame short).2 bad, receive_eq, search_of_not_mem none, countOn_portOf, setPort_countOn, countOn_now]
    rfl
  · rw [exec_frameReceived hp, (receive_frame short).2 bad]
    rfl
  · intro none
    rw [receive_eq, search_of_not_mem none]
  · rintro before rest rfl clean
    have found : search p (before ++ syncByte :: rest) s = search p (syncByte :: rest) s := search_append clean rest
    refine ⟨fun few => ?_, fun d r c n tail spelt => ⟨fun long => ?_, fun short part => ?_, fun f short more spells => ⟨fun good => ?_, fun bad => ?_⟩⟩⟩
    · exact (receive_of_search found rfl).trans (by rw [receive_eq, search_of_few few]; rfl)
    · subst spelt
      exact receive_of_search (found.trans (search_of_long long)) (countOn_now p Counters.incLength s)
    · subst spelt
      exact (receive_of_search found rfl).trans (by rw [receive_eq, search_of_partial short part]; rfl)
    · have whole := search_of_frame (p := p) (s := s) short more
      rw [good, if_pos rfl, ← spells] at whole
      exact receive_of_search (found.trans whole) (goodFrame_sameNow p f s)
    · have whole := search_of_frame (p := p) (s := s) short more
      rw [bad, if_neg Bool.false_ne_true, ← spells] at whole
      exact receive_of_search (found.trans whole) (countOn_now p Counters.incCheck s)
  · have four : (portOf p s).assembly.length = 4 ∧ 32 < n.toNat := ⟨by rw [held]; rfl, long⟩
    have row : exec (.lengthAbort p n) s = .next (receive p ((portOf p s).assembly ++ [n]) s) := by
      unfold exec execLengthAbort
      exact whenOn_ite_pos (P := fun s => (portOf p s).assembly.length = 4 ∧ 32 < n.toNat) hp four
    refine ⟨?_, (exec_byteReceived hp).trans row.symm⟩
    rw [row, held]
    have found : search p ([syncByte, d, r, c] ++ [n]) s = (dropToSync [d, r, c, n], countOn p Counters.incLength s) :=
      (search_of_long long).trans (search_of_four (Nat.lt_succ_self 4))
    refine congrArg _ ((receive_eq p ([syncByte, d, r, c] ++ [n]) s).trans ?_)
    rw [found, countOn_portOf, setPort_countOn]
    rfl
  · have row : exec (.frameGapTimeout p) s = .next (emptyAssembly p (countOn p Counters.incTimeout s)) :=
      whenOn_test_pos (test := gapDue p) (f := fun s => emptyAssembly p (countOn p Counters.incTimeout s)) hp ((gapDue_iff p s).mpr ⟨held, ran⟩)
    rw [row, emptyAssembly, countOn_portOf, setPort_countOn]
    rfl

end Sys2Proof.Machine
end

section
/-! The ghost test, routing, and the rows of the commands: that a command row is its frame's arrival, and that a wrong length is refused. -/

namespace Sys2Proof.Machine

/-! ## The ghost test (R126) -/

theorem closedCorners_eq (m : Matrix) (a b s t : Nat) :
    closedCorners m a b s t = [a * 8 + s, a * 8 + t, b * 8 + s, b * 8 + t].countP (fun p => m.getLsbD p) := by
  simp only [closedCorners, isClosed, List.countP_cons, List.countP_nil, Nat.zero_add]
  cases m.getLsbD (a * 8 + s) <;> cases m.getLsbD (a * 8 + t) <;> cases m.getLsbD (b * 8 + s) <;> cases m.getLsbD (b * 8 + t) <;> rfl

theorem isAmbiguous_iff (m : Matrix) (p : Nat) :
    isAmbiguous m p = true ↔ ∃ b < 6, b ≠ p / 8 ∧ ∃ t < 8, t ≠ p % 8 ∧ 3 ≤ closedCorners m (p / 8) b (p % 8) t := by
  simp only [isAmbiguous, List.any_eq_true, List.mem_range, Bool.and_eq_true, bne_iff_ne, decide_eq_true_eq]

/-- A position is ambiguous through any rectangle it is a corner of that has three corners closed. -/
theorem isAmbiguous_of_corner {m : Matrix} {a b s t : Nat} (hb : b < 6) (hs : s < 8) (ht : t < 8) (rows : b ≠ a) (columns : t ≠ s)
    (closed : 3 ≤ closedCorners m a b s t) : isAmbiguous m (a * 8 + s) = true := by
  have drive : (a * 8 + s) / 8 = a := by omega
  have sense : (a * 8 + s) % 8 = s := by omega
  rw [isAmbiguous_iff, drive, sense]
  exact ⟨b, hb, rows, t, ht, columns, closed⟩

/-- The corners of a rectangle are counted the same from each of them. -/
theorem closedCorners_symm (m : Matrix) (a b s t : Nat) :
    closedCorners m a b t s = closedCorners m a b s t ∧ closedCorners m b a s t = closedCorners m a b s t
      ∧ closedCorners m b a t s = closedCorners m a b s t := by
  unfold closedCorners
  omega

/-- Settles O48: the four corners of a rectangle, and a count over the whole matrix. -/
theorem ghostTest : Obligations.GhostTest := by
  refine ⟨fun m a b s t ha hb hs ht rows columns closed p corner => ?_, fun m p _ ambiguous => ?_, fun m p inside few => ?_⟩
  · rw [← closedCorners_eq] at closed
    obtain ⟨across, down, diagonal⟩ := closedCorners_symm m a b s t
    simp only [List.mem_cons, List.not_mem_nil, or_false] at corner
    rcases corner with rfl | rfl | rfl | rfl
    · exact isAmbiguous_of_corner hb hs ht rows.symm columns.symm closed
    · exact isAmbiguous_of_corner hb ht hs rows.symm columns (across ▸ closed)
    · exact isAmbiguous_of_corner ha hs ht rows columns.symm (down ▸ closed)
    · exact isAmbiguous_of_corner ha ht hs rows columns (diagonal ▸ closed)
  · obtain ⟨b, hb, row, t, ht, column, closed⟩ := (isAmbiguous_iff m p).mp ambiguous
    have corner : p / 8 * 8 + p % 8 = p := by omega
    rw [closedCorners_eq, corner] at closed
    exact ⟨b, hb, t, ht, row, column, closed⟩
  · rw [← Bool.not_eq_true, isAmbiguous_iff]
    rintro ⟨b, hb, row, t, ht, column, closed⟩
    rw [closedCorners_eq] at closed
    have apart : [p / 8 * 8 + p % 8, p / 8 * 8 + t, b * 8 + p % 8, b * 8 + t].Nodup := by
      simp only [List.nodup_cons, List.mem_cons, List.not_mem_nil, or_false, not_or, List.nodup_nil, not_false_eq_true, and_true]
      omega
    have within : [p / 8 * 8 + p % 8, p / 8 * 8 + t, b * 8 + p % 8, b * 8 + t] ⊆ List.range 48 := by
      intro q hq
      simp only [List.mem_cons, List.not_mem_nil, or_false] at hq
      rw [List.mem_range]
      omega
    have counted := (List.subperm_of_subset apart within).countP_le (fun q => m.getLsbD q)
    omega

/-! ## Command rows (R143, R144) -/

/-- A frame from the computer to the part, of a command class, is a command's arrival whatever its check. -/
theorem goodFrame_command {cls : Byte} (command : isCommandClass cls = true) (p : List Byte) (check : Word16) (s : State) :
    goodFrame .c { dst := 0x0F, src := 0x01, cls := cls, payload := p, check := check } s = commandArrives (fun armed => runCommand cls p armed) s := by
  have routed (u : State) : commandFrame { dst := 0x0F, src := 0x01, cls := cls, payload := p, check := check } u =
      handOver (fun armed => runCommand cls p armed) u := if_pos command
  change (if (countOn .c Counters.incGood s).lines.pcRst then _ else if (0x01 : Byte) ≠ computerNode then _ else if (0x0F : Byte) = ownNode then
    commandFrame _ (countOn .c Counters.incGood s) else _) = _
  rw [if_neg (show ¬ (0x01 : Byte) ≠ computerNode by decide), if_pos (show (0x0F : Byte) = ownNode from rfl), routed]
  rfl

/-- Settles O34: every row brings its command by `goodFrame_command`. -/
theorem commandRowsAreTheirFrames : Obligations.CommandRowsAreTheirFrames := by
  intro p check s hp
  have row (cls : Byte) (command : isCommandClass cls = true) (act : Bool → State → State) (runs : (fun armed => runCommand cls p armed) = act) :
      whenOn s (commandArrives act) = .next (goodFrame .c { dst := 0x0F, src := 0x01, cls := cls, payload := p, check := check } s) := by
    rw [whenOn_of_powered hp, goodFrame_command command, runs]
  refine ⟨row 0x40 rfl _ rfl, row 0x41 rfl _ rfl, row 0x42 rfl _ rfl, row 0x43 rfl _ rfl, row 0x44 rfl _ rfl, row 0x45 rfl _ rfl,
    row 0x46 rfl _ rfl, row 0x47 rfl _ rfl, row 0x48 rfl _ rfl, row 0x49 rfl _ rfl, row 0x4A rfl _ rfl, row 0x4B rfl _ rfl, row 0x4C rfl _ rfl,
    row 0x50 rfl _ rfl, row 0x51 rfl _ rfl, row 0x52 rfl _ rfl, row 0x53 rfl _ rfl, row 0x54 rfl _ rfl, row 0x55 rfl _ rfl, row 0x58 rfl _ rfl,
    row 0x59 rfl _ rfl, row 0x5A rfl _ rfl, row 0x5B rfl _ rfl, row 0x5C rfl _ rfl, row 0x5D rfl _ rfl, row 0x5E rfl _ rfl, row 0x5F rfl _ rfl,
    fun cls unused => ?_⟩
  have command : isCommandClass cls = true := by
    simp only [List.mem_cons, List.not_mem_nil, or_false] at unused
    rcases unused with rfl | rfl | rfl | rfl | rfl <;> rfl
  refine (whenOn_of_powered hp (goodFrame .c (mkFrame ownNode computerNode cls p))).trans (congrArg _ ?_)
  rw [goodFrame_command command]
  exact goodFrame_command command p _ s

/-- A command whose first test is its length. -/
theorem badLength {s : State} (h : TakesCommands s) {P : Prop} [Decidable P] (length : P) (cls : Byte) {act : Bool → State → State} (t : State)
    (judged : act s.sup.arm.isSome (taken s) = if P then refuse cls .badLength (taken s) else t) :
    whenOn s (commandArrives act) = .next (replied cls [0x11] s) := by
  rw [whenOn_commandArrives h, judged, if_pos length]
  exact congrArg _ (refuse_taken cls .badLength s)

/-- Settles O40: the length is the first test of every command. -/
theorem wrongLengthsAreRefused : Obligations.WrongLengthsAreRefused := by
  intro p s h
  refine ⟨fun n => ⟨badLength h n 0x40 _ rfl, badLength h n 0x41 _ rfl, badLength h n 0x46 _ rfl, badLength h n 0x47 _ rfl, badLength h n 0x53 _ rfl,
      badLength h n 0x5A _ rfl, badLength h n 0x5B _ rfl, badLength h n 0x5F _ rfl⟩,
    fun n => ⟨badLength h n 0x49 _ rfl, badLength h n 0x4B _ rfl, badLength h n 0x51 _ rfl, badLength h n 0x54 _ rfl, badLength h n 0x5C _ rfl⟩,
    fun n => ⟨badLength h n 0x42 _ rfl, badLength h n 0x44 _ rfl, badLength h n 0x4C _ rfl, badLength h n 0x59 _ rfl⟩,
    fun n => badLength h n 0x43 _ rfl, fun n => badLength h n 0x45 _ rfl, fun n => badLength h n 0x48 _ rfl, fun n => badLength h n 0x50 _ rfl,
    fun n => ⟨badLength h n 0x52 _ rfl, badLength h n 0x58 _ rfl⟩, fun n => badLength h n 0x55 _ rfl, fun n => badLength h n 0x5E _ rfl, fun n => ?_,
    fun n => badLength h n 0x5D _ rfl, fun cls unused => ?_⟩
  · refine (whenOn_commandArrives h _).trans (congrArg _ ?_)
    have refused : cmdSetAnswer p (taken s) = refuse 0x4A .badLength (taken s) := by
      unfold cmdSetAnswer
      by_cases length : p.length < 6 ∨ p.length ≠ 6 + u8At p 5
      · rw [if_pos length]
      · have long : 16 < u8At p 5 := (n.resolve_left (mt .inl length)).resolve_right (mt .inr length)
        rw [if_neg length, if_pos long]
    exact refused.trans (refuse_taken 0x4A .badLength s)
  · obtain ⟨command, unknown⟩ : isCommandClass cls = true ∧ ∀ armed u, runCommand cls p armed u = refuse cls .unknown u := by
      simp only [List.mem_cons, List.not_mem_nil, or_false] at unused
      rcases unused with rfl | rfl | rfl | rfl | rfl <;> exact ⟨rfl, fun _ _ => rfl⟩
    have row : exec (.unknownCommand cls p) s = whenOn s (commandArrives (fun armed => runCommand cls p armed)) := by
      refine (whenOn_of_powered h.1 (goodFrame .c (mkFrame ownNode computerNode cls p))).trans (.trans (congrArg _ ?_) (whenOn_of_powered h.1 _).symm)
      exact goodFrame_command command p _ s
    rw [row, whenOn_commandArrives h, unknown, refuse_taken]
    rfl

/-! ## Routing (R82, R84, R143) -/

/-- A frame to the part or through it, by the tests of R82 in their order. -/
theorem goodFrame_c_eq (f : Frame) (s : State) :
    goodFrame .c f s =
      if s.lines.pcRst = true then discardInReset (countOn .c Counters.incGood s)
      else if f.src ≠ 0x01 then countOn .c Counters.incMisrouted (countOn .c Counters.incGood s)
      else if f.dst = 0x0F then commandFrame f (countOn .c Counters.incGood s)
      else if f.dst = 0x00 ∨ isBezel f.dst = true then settle (passFrame .down f (countOn .c Counters.incGood s))
      else countOn .c Counters.incMisrouted (countOn .c Counters.incGood s) := rfl

theorem goodFrame_b_eq (f : Frame) (s : State) :
    goodFrame .b f s =
      if isBezel f.src = false then countOn .b Counters.incMisrouted (countOn .b Counters.incGood s)
      else if f.dst = 0x01 ∨ f.dst = 0x00 then settle (passFrame .up f (countOn .b Counters.incGood s))
      else countOn .b Counters.incMisrouted (countOn .b Counters.incGood s) := rfl

theorem isBezel_iff (a : Byte) : isBezel a = true ↔ 0x20 ≤ a.toNat ∧ a.toNat ≤ 0x3F := by
  simp only [isBezel, Bool.and_eq_true, decide_eq_true_eq]

theorem isBezel_eq_false_iff (a : Byte) : isBezel a = false ↔ a.toNat < 0x20 ∨ 0x3F < a.toNat := by
  rw [← Bool.not_eq_true, isBezel_iff]
  omega

theorem isCommandClass_iff (a : Byte) : isCommandClass a = true ↔ 0x40 ≤ a.toNat ∧ a.toNat ≤ 0x5F := by
  simp only [isCommandClass, Bool.and_eq_true, decide_eq_true_eq]

theorem reportLate_of_open {s : State} {older : List RestartRecord} {r : RestartRecord} (openRecord : s.sup.openRecord = true)
    (held : s.sup.history = older ++ [r]) :
    reportLate s = { s with sup.history := older ++ [{ r with lateCount := min 255 (r.lateCount + 1) }] } := by
  simp only [reportLate, openRecord, held, List.getLast?_concat, List.dropLast_concat, if_true]
  rfl

theorem reportLate_of_closed {s : State} (closed : s.sup.openRecord = false) : reportLate s = s := by
  simp only [reportLate, closed, Bool.false_eq_true, if_false]

/-- Settles O33, test by test. -/
theorem goodFramesAreRouted : Obligations.GoodFramesAreRouted := by
  intro f s
  refine ⟨fun reset => ⟨fun closed => ?_, fun older r openRecord held => ?_⟩, fun released => ⟨fun foreign => ?_, fun own part other => ?_,
    fun own part low high room => ?_, fun own part low high full => ?_, fun own bezel => ?_, fun own part all other => ?_⟩, fun foreign => ?_,
    fun low high => ⟨fun computer => ?_, fun other all => ?_⟩⟩
  · rw [goodFrame_c_eq, if_pos reset]
    exact reportLate_of_closed closed
  · rw [goodFrame_c_eq, if_pos reset]
    exact reportLate_of_open (s := countOn .c Counters.incResetDiscard (countOn .c Counters.incGood s)) openRecord held
  · rw [goodFrame_c_eq, if_neg (by rw [released]; exact Bool.false_ne_true), if_pos foreign]
    rfl
  · have unused : ¬ isCommandClass f.cls = true := by
      rw [isCommandClass_iff]
      omega
    rw [goodFrame_c_eq, if_neg (by rw [released]; exact Bool.false_ne_true), if_neg (not_not.mpr own), if_pos part, commandFrame, if_neg unused]
    rfl
  · rw [goodFrame_c_eq, if_neg (by rw [released]; exact Bool.false_ne_true), if_neg (not_not.mpr own), if_pos part, commandFrame,
      if_pos ((isCommandClass_iff _).mpr ⟨low, high⟩), handOver, if_pos (by exact room)]
    rfl
  · rw [goodFrame_c_eq, if_neg (by rw [released]; exact Bool.false_ne_true), if_neg (not_not.mpr own), if_pos part, commandFrame,
      if_pos ((isCommandClass_iff _).mpr ⟨low, high⟩), handOver, if_neg (by exact Nat.not_le.mpr full)]
    exact settle_deliveries _
  · have other : f.dst ≠ 0x0F := by
      rintro part
      rw [part] at bezel
      exact absurd bezel (by decide)
    rw [goodFrame_c_eq, if_neg (by rw [released]; exact Bool.false_ne_true), if_neg (not_not.mpr own), if_neg other,
      if_pos (bezel.imp_right (isBezel_iff _).mpr)]
    rfl
  · have outside : ¬ (f.dst = 0x00 ∨ isBezel f.dst = true) := by
      rw [isBezel_iff]
      rintro (h | h)
      · exact all h
      · omega
    rw [goodFrame_c_eq, if_neg (by rw [released]; exact Bool.false_ne_true), if_neg (not_not.mpr own), if_neg part, if_neg outside]
    rfl
  · rw [goodFrame_b_eq, if_pos ((isBezel_eq_false_iff _).mpr foreign)]
    rfl
  · rw [goodFrame_b_eq, if_neg (by rw [isBezel_eq_false_iff]; omega), if_pos computer]
    rfl
  · rw [goodFrame_b_eq, if_neg (by rw [isBezel_eq_false_iff]; omega), if_neg (not_or.mpr ⟨other, all⟩)]
    rfl

/-! ## The actions of the pass table (R96 to R100) -/

theorem countSpecialIf_not (b : Bool) (i : Nat) (s : State) : countSpecialIf (!b) i s = if b then s else countSpecial i s := by cases b <;> rfl

/-- Settles O38, action by action. -/
theorem passActions : Obligations.PassActions := by
  intro i d f s
  refine ⟨fun drop => ⟨?_, ?_⟩, fun forward => ⟨?_, fun reset => ?_, fun released => ?_⟩, fun beat => ?_, fun clamp => ⟨fun short => ?_, fun inside => ?_⟩,
    fun query => ⟨?_, ?_⟩⟩
  · simp only [performAction, drop]
  · simp only [performAction, drop]
  · simp only [performAction, forward, Machine.forward]
  · simp only [performAction, forward, Machine.forward, reset, if_true]
  · simp only [performAction, forward, Machine.forward, released, Bool.false_eq_true, if_false]
  · intro token r counted
    have judged : countSpecialIf (r.2 == some false) i r.1 = if r.2 = some false then countSpecial i r.1 else r.1 := by
      simp only [countSpecialIf, beq_iff_eq]
    have action : performAction i d .down f s = heartbeatAction i d f s := by simp only [performAction, beat]
    rw [action]
    change (if d.forward then forward .down f (sendNotice (countSpecialIf (r.2 == some false) i r.1)) else
      sendNotice (countSpecialIf (r.2 == some false) i r.1)) = _
    rw [judged]
    rfl
  · have action : performAction i d .down f s = clampAction i d f s := by simp only [performAction, clamp]
    rw [action, clampAction, if_neg (Nat.not_lt.mpr short)]
  · have action : performAction i d .down f s = clampAction i d f s := by simp only [performAction, clamp]
    rw [action, clampAction, if_pos inside]
    rfl
  · have action : performAction i d .up f s = answer i d.answerIndex.toNat .up f s := by simp only [performAction, query]
    rw [action]
    exact countSpecialIf_not ..
  · have action : performAction i d .down f s = answer i d.answerIndex.toNat .down f s := by simp only [performAction, query]
    rw [action]
    exact countSpecialIf_not ..

end Sys2Proof.Machine
end

section
/-! Answer frames: the template's bytes, and the live fields written over them. -/

namespace Sys2Proof.Machine

/-! ## Live fields (R100, R101) -/

theorem writeAt_length : ∀ (bytes l : List Byte) (i : Nat), (writeAt l i bytes).length = l.length
  | [], _, _ => rfl
  | b :: rest, l, i => (writeAt_length rest (l.set i b) (i + 1)).trans (List.length_set ..)

theorem writeLive_length (o : Byte) (bytes l : List Byte) : (writeLive o bytes l).length = l.length := by
  unfold writeLive
  split
  · rfl
  · exact writeAt_length ..

/-- A live field leaves the bytes outside it. -/
theorem writeLive_outside {o : Byte} {n : Nat} {l : List Byte} : 
    (∀ x, (o.toNat = 255 ∨ n ≠ o.toNat) → (writeLive o [x] l)[n]? = l[n]?)
      ∧ ∀ x y, (o.toNat = 255 ∨ n ≠ o.toNat ∧ n ≠ o.toNat + 1) → (writeLive o [x, y] l)[n]? = l[n]? := by
  have absent : o.toNat = 255 → o = 0xFF := fun h => BitVec.eq_of_toNat_eq h
  refine ⟨fun x out => ?_, fun x y out => ?_⟩
  · unfold writeLive
    split
    · rfl
    · next present =>
      have apart := out.resolve_left (mt absent present)
      rw [writeAt, writeAt, List.getElem?_set_ne (Ne.symm apart)]
  · unfold writeLive
    split
    · rfl
    · next present =>
      obtain ⟨first, second⟩ := out.resolve_left (mt absent present)
      rw [writeAt, writeAt, writeAt, List.getElem?_set_ne (Ne.symm second), List.getElem?_set_ne (Ne.symm first)]

theorem writeLive_one {o x : Byte} {l : List Byte} (present : o.toNat ≠ 255) (inside : o.toNat < l.length) :
    (writeLive o [x] l)[o.toNat]? = some x := by
  rw [writeLive, if_neg (fun h => present (congrArg BitVec.toNat h)), writeAt, writeAt, List.getElem?_set_self inside]

theorem writeLive_two {o x y : Byte} {l : List Byte} (present : o.toNat ≠ 255) (inside : o.toNat + 1 < l.length) :
    (writeLive o [x, y] l)[o.toNat]? = some x ∧ (writeLive o [x, y] l)[o.toNat + 1]? = some y := by
  rw [writeLive, if_neg (fun h => present (congrArg BitVec.toNat h)), writeAt, writeAt, writeAt]
  refine ⟨?_, List.getElem?_set_self (by rw [List.length_set]; exact inside)⟩
  rw [List.getElem?_set_ne (Nat.succ_ne_self _), List.getElem?_set_self (Nat.lt_of_succ_lt inside)]

/-- Two bytes of a list, by their places. -/
theorem take_two_drop {l : List Byte} {i : Nat} {x y : Byte} (first : l[i]? = some x) (second : l[i + 1]? = some y) : (l.drop i).take 2 = [x, y] := by
  obtain ⟨hi, rfl⟩ := List.getElem?_eq_some_iff.mp first
  obtain ⟨hj, rfl⟩ := List.getElem?_eq_some_iff.mp second
  rw [List.drop_eq_getElem_cons hi, List.drop_eq_getElem_cons hj]
  rfl

theorem mem_liveBytes (o : Byte) (width n : Nat) : n ∈ liveBytes o width ↔ o.toNat ≠ 255 ∧ o.toNat ≤ n ∧ n < o.toNat + width := by
  have absent : o = 0xFF ↔ o.toNat = 255 := by rw [← BitVec.toNat_inj]; rfl
  simp only [liveBytes, absent]
  split
  · next h => exact iff_of_false List.not_mem_nil fun k => k.1 h
  · next h =>
    simp only [List.mem_map, List.mem_range]
    constructor
    · rintro ⟨k, hk, rfl⟩
      exact ⟨h, by omega, by omega⟩
    · rintro ⟨-, low, high⟩
      exact ⟨n - o.toNat, by omega, by omega⟩

/-- What R102 asks of the live fields: each inside the template, and no two over the same byte. -/
theorem liveFieldsFit_apart {a : Answer} (fit : liveFieldsFit a = true) :
    let p := a.phaseOffset.toNat
    let b := a.boardOffset.toNat
    let r := a.soakOffset.toNat
    (p ≠ 255 → p < a.template.length) ∧ (b ≠ 255 → b + 1 < a.template.length) ∧ (r ≠ 255 → r + 1 < a.template.length)
      ∧ (p ≠ 255 → (b = 255 ∨ p ≠ b ∧ p ≠ b + 1) ∧ (r = 255 ∨ p ≠ r ∧ p ≠ r + 1))
      ∧ (b ≠ 255 → r = 255 ∨ (b ≠ r ∧ b ≠ r + 1) ∧ b + 1 ≠ r ∧ b + 1 ≠ r + 1) := by
  intro p b r
  simp only [liveFieldsFit, Bool.and_eq_true, List.all_eq_true, decide_eq_true_eq] at fit
  obtain ⟨inside, apart⟩ := fit
  simp only [allLiveBytes, List.nodup_append, List.mem_append, mem_liveBytes] at inside apart
  obtain ⟨⟨-, -, phaseBoard⟩, -, soak⟩ := apart
  refine ⟨fun hp => inside p (.inl (.inl ⟨hp, by omega, by omega⟩)), fun hb => inside (b + 1) (.inl (.inr ⟨hb, by omega, by omega⟩)),
    fun hr => inside (r + 1) (.inr ⟨hr, by omega, by omega⟩), fun hp => ⟨?_, ?_⟩, fun hb => ?_⟩
  · refine (em (b = 255)).imp_right fun hb => ⟨phaseBoard p ⟨hp, by omega, by omega⟩ b ⟨hb, by omega, by omega⟩,
      phaseBoard p ⟨hp, by omega, by omega⟩ (b + 1) ⟨hb, by omega, by omega⟩⟩
  · refine (em (r = 255)).imp_right fun hr => ⟨soak p (.inl ⟨hp, by omega, by omega⟩) r ⟨hr, by omega, by omega⟩,
      soak p (.inl ⟨hp, by omega, by omega⟩) (r + 1) ⟨hr, by omega, by omega⟩⟩
  · refine (em (r = 255)).imp_right fun hr => ⟨⟨soak b (.inr ⟨hb, by omega, by omega⟩) r ⟨hr, by omega, by omega⟩,
      soak b (.inr ⟨hb, by omega, by omega⟩) (r + 1) ⟨hr, by omega, by omega⟩⟩, soak (b + 1) (.inr ⟨hb, by omega, by omega⟩) r ⟨hr, by omega, by omega⟩,
      soak (b + 1) (.inr ⟨hb, by omega, by omega⟩) (r + 1) ⟨hr, by omega, by omega⟩⟩

theorem tempBytes_two (t : Option Int) : ∃ x y, tempBytes t = [x, y] := by
  cases t
  · exact ⟨_, _, rfl⟩
  · exact ⟨_, _, rfl⟩

theorem checkMatches_mkFrame (dst src cls : Byte) (payload : List Byte) : checkMatches (mkFrame dst src cls payload) = true :=
  beq_self_eq_true _

/-- Settles O39: the three fields are apart, so each write stands as it was made. -/
theorem answerFrames : Obligations.AnswerFrames := by
  intro i a f s held fit
  have record : answerRecord i s = a := by simp only [answerRecord, List.getD_eq_getElem?_getD, held, Option.getD_some]
  intro g p b r soak
  obtain ⟨phaseIn, boardIn, soakIn, phaseApart, boardApart⟩ := liveFieldsFit_apart fit
  obtain ⟨t0, t1, board⟩ := tempBytes_two s.sens.effBoard
  have payload : g.payload = writeLive a.soakOffset (be16 (soakRemaining s))
      (writeLive a.boardOffset [t0, t1] (writeLive a.phaseOffset [byte s.ctl.phase.code] a.template)) := by
    rw [← board, ← record]
    rfl
  have soaked : soakRemaining s = soak := by simp only [soakRemaining, Bool.not_eq_true', soak]
  refine ⟨rfl, rfl, congrArg Answer.cls record, checkMatches_mkFrame .., ?_, fun hp => ?_, fun hb => ?_, fun hr => ?_, fun n inside np nb nr => ?_⟩
  · rw [payload, writeLive_length, writeLive_length, writeLive_length]
  · obtain ⟨clearBoard, clearSoak⟩ := phaseApart hp
    rw [payload, be16, writeLive_outside.2 _ _ clearSoak, writeLive_outside.2 _ _ clearBoard, writeLive_one hp (phaseIn hp)]
  · obtain ⟨first, second⟩ := writeLive_two (o := a.boardOffset) (x := t0) (y := t1) (l := writeLive a.phaseOffset [byte s.ctl.phase.code] a.template)
      hb (by rw [writeLive_length]; exact boardIn hb)
    have clear := boardApart hb
    have shown : s.sens.effBoard.elim [0x80, 0x00] beInt = [t0, t1] := by
      rw [← board]
      cases s.sens.effBoard <;> rfl
    rw [payload, be16, shown]
    exact take_two_drop ((writeLive_outside.2 _ _ (clear.imp_right And.left)).trans first)
      ((writeLive_outside.2 _ _ (clear.imp_right And.right)).trans second)
  · obtain ⟨first, second⟩ := writeLive_two (o := a.soakOffset) (x := byte (soak / 256)) (y := byte soak)
      (l := writeLive a.boardOffset [t0, t1] (writeLive a.phaseOffset [byte s.ctl.phase.code] a.template)) hr
      (by rw [writeLive_length, writeLive_length]; exact soakIn hr)
    rw [payload, soaked, be16]
    exact take_two_drop first second
  · rw [payload, be16, writeLive_outside.2 _ _ nr, writeLive_outside.2 _ _ nb, writeLive_outside.1 _ (.inr np)]

end Sys2Proof.Machine
end

section
/-! The queues, the arbiter, the transmitters, the link reset and the stalls. -/

namespace Sys2Proof.Machine

/-! ## The arbiter (R84) -/

theorem takeByRank_eq_none {q : List UpFrame} : takeByRank q = none ↔ q = [] := by
  cases q with
  | nil => exact ⟨fun _ => rfl, fun _ => rfl⟩
  | cons f rest =>
    refine ⟨fun h => ?_, fun h => nomatch h⟩
    rw [takeByRank] at h
    split at h
    · cases h
    · split at h <;> cases h

/-- The place the arbiter takes its frame from: every frame before it has a higher rank code, and none after it a lower one. -/
structure ArbitersChoice (q : List UpFrame) (f : UpFrame) (rest : List UpFrame) (i : Nat) : Prop where
  inside : i < q.length
  here : q[i]? = some f
  others : rest = q.eraseIdx i
  before : ∀ g ∈ q.take i, f.rank.code < g.rank.code
  after : ∀ g ∈ q.drop (i + 1), f.rank.code ≤ g.rank.code

theorem ArbitersChoice.least {q rest : List UpFrame} {f : UpFrame} {i : Nat} (h : ArbitersChoice q f rest i) : ∀ g ∈ q, f.rank.code ≤ g.rank.code := by
  intro g mem
  have inside := h.inside
  have here : q[i] = f := (List.getElem?_eq_some_iff.mp h.here).2
  rw [← List.take_append_drop i q, List.drop_eq_getElem_cons h.inside, here] at mem
  rcases List.mem_append.mp mem with early | late
  · exact (h.before g early).le
  · rcases List.mem_cons.mp late with rfl | late
    · exact le_rfl
    · exact h.after g late

theorem takeByRank_choice : ∀ {q rest : List UpFrame} {f : UpFrame}, takeByRank q = some (f, rest) → ∃ i, ArbitersChoice q f rest i
  | x :: xs, rest, f, taken => by
    have first (least : ∀ g ∈ xs, x.rank.code ≤ g.rank.code) : ∃ i, ArbitersChoice (x :: xs) x xs i :=
      ⟨0, ⟨Nat.succ_pos _, rfl, rfl, fun g none => (List.not_mem_nil none).elim, least⟩⟩
    rw [takeByRank] at taken
    split at taken
    next empty =>
      cases taken
      exact first (takeByRank_eq_none.mp empty ▸ fun g none => nomatch none)
    next g others tail =>
      obtain ⟨i, choice⟩ := takeByRank_choice tail
      split at taken
      next lower =>
        cases taken
        refine ⟨i + 1, Nat.succ_lt_succ choice.inside, choice.here, by rw [choice.others, List.eraseIdx_cons_succ], ?_, choice.after⟩
        intro y mem
        rcases List.mem_cons.mp mem with rfl | mem
        · exact lower
        · exact choice.before y mem
      next notLower =>
        cases taken
        exact first fun y mem => (Nat.not_lt.mp notLower).trans (choice.least y mem)

/-! ## Admission (R83, R85) -/

theorem offerForwarded_admitted {s : State} (free : s.link.c.stalled = false) (room : s.link.up.length ≤ 10) (received : Bool) (f : Frame) :
    offerForwarded received f s = (setUp (s.link.up ++ [{ frame := f, rank := .forwarded }]) s, true) := by
  simp only [offerForwarded, free, room, Bool.false_eq_true, if_false, if_true]

/-! ## The transmitters (R76) -/

theorem startFrame_of_idle {p : PortId} {s : State}
    (idle : (portOf p s).sending.isSome = true ∨ rdyIn p s = false ∨ holdsFrame p s = false) : startFrame p s = s := by
  have waits : canStart p s = false := by
    rcases idle with busy | blocked | empty
    · have taken : (portOf p s).sending.isNone = false := Option.isNone_eq_false_iff.mpr busy
      simp only [canStart, taken, Bool.false_and]
    · simp only [canStart, blocked, Bool.and_false, Bool.false_and]
    · simp only [canStart, empty, Bool.and_false]
  unfold startFrame
  rw [waits]
  rfl

theorem startFrame_b {f : DownFrame} {rest : List DownFrame} {s : State} (free : s.link.b.sending = none) (ready : s.pins.rdyB = true)
    (waiting : s.link.down = f :: rest) :
    startFrame .b s =
      { s with link.down := rest, link.b.stallFrom := none, link.b.sending := some { frame := f.frame, since := s.clock.now } } := by
  have starts : canStart .b s = true := by simp [canStart, portOf, rdyIn, holdsFrame, free, ready, waiting]
  simp [startFrame, starts, waiting, setDown, putSending, syncStall, setPort, portOf, rdyIn, ready, keepTimer]

/-- A frame the C-port starts leaves its queue, and the deliveries that then have room follow. -/
theorem startFrame_c {f : UpFrame} {rest : List UpFrame} {s : State} (free : s.link.c.sending = none) (ready : s.pins.rdyC = true)
    (taken : takeByRank s.link.up = some (f, rest)) :
    rest <+: (startFrame .c s).link.up
      ∧ SameButDeliveries { s with link.c.sending := some { frame := f.frame, since := s.clock.now } } (startFrame .c s) := by
  have waiting : s.link.up.isEmpty = false := by
    cases up : s.link.up with
    | nil => rw [up] at taken; cases taken
    | cons => rfl
  have starts : canStart .c s = true := by simp [canStart, portOf, rdyIn, holdsFrame, free, ready, waiting]
  have eq : startFrame .c s = settle (setUp rest (putSending .c f.frame s)) := by
    unfold startFrame
    rw [starts, if_pos rfl]
    simp only [taken]
  have queued : SameButDeliveries { s with link.c.sending := some { frame := f.frame, since := s.clock.now } } (setUp rest (putSending .c f.frame s)) := rfl
  rw [eq]
  exact ⟨settle_up (setUp rest (putSending .c f.frame s)), queued.trans (settle_deliveries _)⟩

theorem exec_transmitStart {s : State} (hp : s.powered = true) (p : PortId) : exec (.transmitStart p) s = .next (startFrame p s) :=
  whenOn_of_powered hp (startFrame p)

/-- The end of a frame leaves the transmitter free and starts the next. -/
theorem exec_transmitComplete {s : State} (hp : s.powered = true) {p : PortId} (busy : (portOf p s).sending.isSome = true) :
    exec (.transmitComplete p) s = .next (startFrame p (setPort p { portOf p s with sending := none } s)) := by
  have row := whenOn_of_powered hp fun s =>
    if (portOf p s).sending.isSome then startFrame p (setPort p { portOf p s with sending := none } s) else s
  rw [if_pos busy] at row
  exact row

/-- Settles O36: the admissions by their branches, the arbiter by induction on the queue, and the transmitters by what starting a frame does. -/
theorem queuesAndTransmitters : Obligations.QueuesAndTransmitters := by
  refine ⟨⟨fun received f s => ⟨fun stalled => ?_, fun free room => ?_, fun free full => ?_⟩,
    fun received f s => ⟨fun stalled => ?_, fun free room => ?_, fun free full => ?_⟩,
    fun q => ⟨takeByRank_eq_none, fun f rest taken => ?_⟩, fun s => ⟨decide_eq_true_iff, decide_eq_true_iff⟩⟩,
    fun s hp => ⟨fun p idle => ?_, fun p busy idle => ?_, fun f rest ready waiting => ?_, fun f rest ready taken => ?_⟩⟩
  · rw [offerDown, if_pos stalled]
    rfl
  · rw [offerDown_admitted free room]
    exact ⟨rfl, rfl⟩
  · have long : ¬ s.link.down.length < 8 := Nat.not_lt.mpr full
    simp only [offerDown, free, long, Bool.false_eq_true, if_false]
    cases received <;> exact ⟨rfl, rfl⟩
  · rw [offerForwarded, if_pos stalled]
    rfl
  · rw [offerForwarded_admitted free room]
    exact ⟨rfl, rfl⟩
  · have long : ¬ s.link.up.length ≤ 10 := Nat.not_le.mpr full
    simp only [offerForwarded, free, long, Bool.false_eq_true, if_false]
    cases received <;> exact ⟨rfl, rfl⟩
  · obtain ⟨i, inside, here, others, before, after⟩ := takeByRank_choice taken
    exact ⟨i, inside, here, others, before, after⟩
  · rw [exec_transmitStart hp, startFrame_of_idle idle]
  · rw [exec_transmitComplete hp busy, startFrame_of_idle]
    cases p <;> exact .inr idle
  · refine ⟨fun free => ?_, fun busy => ?_⟩
    · rw [exec_transmitStart hp, startFrame_b free ready waiting]
    · rw [exec_transmitComplete hp (p := .b) busy]
      exact congrArg _ (startFrame_b rfl ready waiting)
  · refine ⟨fun free => ⟨_, exec_transmitStart hp .c, startFrame_c free ready taken⟩, fun busy => ⟨_, exec_transmitComplete hp (p := .c) busy, ?_⟩⟩
    exact startFrame_c (s := setPort .c { portOf .c s with sending := none } s) rfl ready taken

end Sys2Proof.Machine
end

section
/-! Causes and NOTICE frames, by the numbers of the bits that are set; and the link reset and the stalls, after which both are judged anew. -/

namespace Sys2Proof.Machine

/-! ## Eligible causes (R149, R150) -/

/-- The bits of the causes that are pending and enabled, from the lowest. -/
def causeNumbers (s : State) : List Nat := (List.range 13).filter fun n => (s.note.pending &&& s.cfg.enables).getLsbD n

theorem Cause.code_pos (c : Cause) : 0 < c.code := by cases c <;> decide

theorem causeNumbers_eq (s : State) : causeNumbers s = (eligible s).map fun c => c.code - 1 := by
  have all : List.range 13 = allCauses.map fun c => c.code - 1 := by decide
  rw [causeNumbers, all, List.filter_map]
  rfl

theorem eligible_isEmpty (s : State) : (eligible s).isEmpty = true ↔ causeNumbers s = [] := by
  rw [causeNumbers_eq, List.map_eq_nil_iff, List.isEmpty_iff]

theorem eligible_length (s : State) : (eligible s).length = (causeNumbers s).length := by
  rw [causeNumbers_eq, List.length_map]

theorem topCode_eq {s : State} (some : causeNumbers s ≠ []) : topCode s = (causeNumbers s).headD 0 + 1 := by
  rw [causeNumbers_eq] at some ⊢
  unfold topCode
  cases list : eligible s with
  | nil => exact absurd (by rw [list]; rfl) some
  | cons c rest =>
    have pos := Cause.code_pos c
    change c.code = c.code - 1 + 1
    omega

theorem causeNumbers_eq_nil (s : State) : causeNumbers s = [] ↔ s.note.pending &&& s.cfg.enables = 0 := by
  rw [causeNumbers, List.filter_eq_nil_iff]
  refine ⟨fun none => BitVec.eq_of_getLsbD_eq fun n small => ?_, fun zero n _ => ?_⟩
  · exact (Bool.eq_false_iff.mpr (none n (List.mem_range.mpr small))).trans BitVec.getLsbD_zero.symm
  · rw [zero]
    exact Bool.eq_false_iff.mp BitVec.getLsbD_zero

theorem rankCount_eq_zero (r : Rank) (s : State) : rankCount r s = 0 ↔ s.link.up.all (fun f => decide (f.rank ≠ r)) = true := by
  rw [rankCount, List.countP_eq_zero, List.all_eq_true]
  simp only [beq_iff_eq, decide_eq_true_eq, ne_eq]

theorem noticeDue_iff (s : State) :
    noticeDue s = true ↔ s.ctl.phase = .run ∧ causeNumbers s ≠ [] ∧ s.note.outstanding = false ∧ s.link.up.length ≤ 10
      ∧ s.link.up.all (fun f => decide (f.rank ≠ .notice)) = true := by
  have waits : (!(eligible s).isEmpty) = true ↔ causeNumbers s ≠ [] := by
    rw [ne_eq, ← eligible_isEmpty s, Bool.not_eq_true', Bool.not_eq_true]
  rw [← rankCount_eq_zero]
  simp only [noticeDue, Bool.and_eq_true, waits, beq_iff_eq, Bool.not_eq_true', decide_eq_true_eq, and_assoc]

/-- The NOTICE test, whole, by the numbers of the eligible causes. -/
theorem sendNotice_whole (s : State) :
    sendNotice s =
      if s.ctl.phase = .run ∧ causeNumbers s ≠ [] ∧ s.note.outstanding = false ∧ s.link.up.length ≤ 10
        ∧ s.link.up.all (fun f => decide (f.rank ≠ .notice)) = true then
        { s with
          link.up := s.link.up ++ [upFrame .notice 0xE0 [byte ((causeNumbers s).headD 0 + 1), byte (causeNumbers s).length]]
          link.c.stallFrom := stallFromWhenWaiting s
          note.outstanding := true }
      else s := by
  rw [sendNotice_eq, if_congr (noticeDue_iff s) rfl rfl]
  refine if_ctx_congr Iff.rfl (fun due => ?_) fun _ => rfl
  rw [topCode_eq due.2.1, eligible_length]

/-! ## GET_CAUSE and SET_CAUSE_ENABLES (R151) -/

theorem cmdGetCause_of_none {s : State} (none : causeNumbers s = []) :
    cmdGetCause [] (taken s) = sendNotice (replied 0x41 [0x00, 0x00, 0x00] { s with note.outstanding := false }) := by
  have empty : eligible (taken s) = [] := List.isEmpty_iff.mp ((eligible_isEmpty s).mpr none)
  have code : topCode (taken s) = 0 := by rw [topCode, empty]
  simp only [cmdGetCause, List.length_nil, ne_eq, not_true_eq_false, if_false, code, empty]
  exact congrArg sendNotice (reply_taken 0x41 .ok _ { s with note.outstanding := false })

theorem cmdGetCause_of_cons {s : State} {n : Nat} {rest : List Nat} (some : causeNumbers s = n :: rest) :
    cmdGetCause [] (taken s) = sendNotice (replied 0x41 [0x00, byte (n + 1), byte rest.length]
      { s with note.pending := s.note.pending &&& ~~~(BitVec.twoPow 13 n), note.outstanding := false }) := by
  obtain ⟨c, others, list, rfl, rfl⟩ : ∃ c others, eligible s = c :: others ∧ n = c.code - 1 ∧ rest = others.map fun c => c.code - 1 := by
    obtain ⟨c, others, list, number, tail⟩ := List.map_eq_cons_iff.mp ((causeNumbers_eq s).symm.trans some)
    exact ⟨c, others, list, number.symm, tail.symm⟩
  have known : eligible (taken s) = c :: others := list
  have code : topCode (taken s) = c.code := by rw [topCode, known]
  have number : c.code - 1 + 1 = c.code := Nat.sub_add_cancel (Cause.code_pos c)
  simp only [cmdGetCause, List.length_nil, ne_eq, not_true_eq_false, if_false, code, known, number, List.length_map]
  exact congrArg sendNotice (reply_taken 0x41 .ok _ { s with note.pending := s.note.pending &&& ~~~causeBit c, note.outstanding := false })

/-- Settles O45: each command and NOTICE_SEND end with the NOTICE test. -/
theorem causesAndNotices : Obligations.CausesAndNotices := by
  intro s eligibleBits noticed l
  have test (u : State) : sendNotice u = noticed u := sendNotice_whole u
  refine ⟨fun h => ⟨fun none => ?_, fun n rest some => ?_⟩, fun h x y => ?_, fun hp => ?_⟩
  · rw [← test, ← cmdGetCause_of_none none]
    exact whenOn_commandArrives h fun _ => cmdGetCause []
  · rw [← test, ← cmdGetCause_of_cons some]
    exact whenOn_commandArrives h fun _ => cmdGetCause []
  · refine (whenOn_commandArrives h fun _ => cmdSetCauseEnables [x, y]).trans (congrArg _ ((test _).symm ▸ ?_))
    exact congrArg sendNotice (reply_taken 0x42 .ok _ { s with cfg.enables := BitVec.ofNat 13 (x.toNat * 256 + y.toNat) })
  · rw [← test]
    exact whenOn_of_powered hp sendNotice

/-! ## Deliveries into an emptied queue (R81, R140, R150) -/

/-- Every frame that waits for the computer is a NOTICE or a KEY frame. -/
def OwnEventsOnly (s : State) : Prop := ∀ f ∈ s.link.up, f.rank = .notice ∨ f.rank = .key

theorem pushUp_ownEvents {r : Rank} (own : r = .notice ∨ r = .key) (cls : Byte) (p : List Byte) {s : State} (h : OwnEventsOnly s) :
    OwnEventsOnly (pushUp r cls p s) := by
  rw [pushUp_eq]
  intro f mem
  rcases List.mem_append.mp mem with old | new
  · exact h f old
  · cases List.mem_singleton.mp new
    exact own

theorem sendNotice_ownEvents {s : State} (h : OwnEventsOnly s) : OwnEventsOnly (sendNotice s) := by
  unfold sendNotice
  split
  · exact pushUp_ownEvents (.inl rfl) _ _ (s := { s with note.outstanding := true }) h
  · exact h

theorem resyncTest_link (s : State) : (resyncTest s).link = s.link := by unfold resyncTest; split <;> rfl

theorem deliverKey_ownEvents {s : State} (h : OwnEventsOnly s) : OwnEventsOnly (deliverKey s) := by
  unfold deliverKey
  split
  · exact h
  · split
    · next rest _ _ =>
      unfold OwnEventsOnly
      rw [resyncTest_link]
      exact pushUp_ownEvents (.inr rfl) _ _ (s := { s with keys.queue := rest }) h
    · exact h

theorem settle_ownEvents {s : State} (h : OwnEventsOnly s) : OwnEventsOnly (settle s) :=
  deliverKey_ownEvents (deliverKey_ownEvents (deliverKey_ownEvents (deliverKey_ownEvents (sendNotice_ownEvents h))))

theorem deliverKey_note (s : State) : (deliverKey s).note = s.note := by
  unfold deliverKey
  split
  · rfl
  · split
    · unfold resyncTest
      split <;> rfl
    · rfl

/-- With nothing waiting for the computer and no NOTICE outstanding, the deliveries make one outstanding exactly where a cause is eligible. -/
theorem settle_outstanding {s : State} (run : s.ctl.phase = .run) (empty : s.link.up = []) (none : s.note.outstanding = false) :
    (settle s).note.outstanding = true ↔ s.note.pending &&& s.cfg.enables ≠ 0 := by
  have kept : (settle s).note = (sendNotice s).note := by simp only [settle, deliverKeys, deliverKey_note]
  rw [kept, sendNotice_eq, ne_eq, ← causeNumbers_eq_nil s]
  split
  next due => exact iff_of_true rfl ((noticeDue_iff s).mp due).2.1
  next notDue =>
    refine iff_of_false (by rw [none]; exact Bool.false_ne_true) fun some => notDue ((noticeDue_iff s).mpr ⟨run, some, none, ?_, ?_⟩)
    · rw [empty]; exact Nat.zero_le _
    · rw [empty]; rfl

/-! ## The link reset (R80, R81) -/

theorem any_isMarked (q : List DownFrame) : q.any isMarked = q.any fun x => decide (x.mark ≠ .unmarked) := by
  have test : isMarked = fun x : DownFrame => decide (x.mark ≠ .unmarked) := by
    funext x
    rw [isMarked, bne, decide_not, beq_eq_decide]
  rw [test]

theorem breakDue_iff (fell : Nat) (s : State) :
    breakDue fell s = true ↔ fell + 20000 ≤ s.clock.now ∧ s.link.rxFrom + 20000 ≤ s.clock.now ∧ s.link.rxJudged ≠ some fell := by
  have span : max fell s.link.rxFrom + ms 20 ≤ s.clock.now ↔ fell + 20000 ≤ s.clock.now ∧ s.link.rxFrom + 20000 ≤ s.clock.now := by
    rw [show ms 20 = 20000 from rfl]
    omega
  simp only [breakDue, Bool.and_eq_true, decide_eq_true_eq, span, bne_iff_ne, and_assoc]

/-- A low period of RX on the C-port, outside reset. -/
def breakTaken (fell : Nat) (s : State) : State :=
  if breakDue fell s then settle (linkReset { s with link.rxJudged := some fell }) else s

theorem exec_rxBreak {s : State} (hp : s.powered = true) (fell : Nat) :
    exec (.rxBreak ⟨.c, fell⟩) s = .next (if s.lines.pcRst then s else breakTaken fell s) :=
  whenOn_of_powered hp fun s => if s.lines.pcRst then s else breakTaken fell s

theorem exec_rxBreak_idle {s : State} (hp : s.powered = true) {fell : Nat} (idle : s.lines.pcRst = true ∨ ¬ breakDue fell s = true) :
    exec (.rxBreak ⟨.c, fell⟩) s = .next s := by
  rw [exec_rxBreak hp]
  by_cases reset : s.lines.pcRst = true
  · rw [if_pos reset]
  · rw [if_neg reset, breakTaken, if_neg (idle.resolve_left reset)]

/-- What the link reset leaves before the deliveries. -/
theorem linkReset_eq (s : State) :
    linkReset s =
      { s with
        link.c.assembly := [], link.c.stalled := false, link.c.stallFrom := none
        link.b.assembly := [], link.b.stalled := false, link.b.stallFrom := none
        link.down := [], link.up := []
        bud.back.resend := s.bud.back.resend || s.link.down.any (fun x => decide (x.mark ≠ .unmarked))
        sup.arm := none, note.outstanding := false, note.statusPart2 := false } := by
  rw [← any_isMarked]
  rfl

/-! ## RDY_IN (R86) -/

theorem exec_rdyInChange {s : State} (hp : s.powered = true) (p : PortId) (asserted : Bool) :
    exec (.rdyInChange p asserted) s = .next (rdyChanges p (setRdyIn p asserted s)) := by
  have on : (setRdyIn p asserted s).powered = true := by cases p <;> exact hp
  exact whenOn_of_powered on (rdyChanges p)

/-! ## Stalls (R87, R88) -/

theorem exec_portStalled {s : State} (hp : s.powered = true) {p : PortId} (free : (portOf p s).stalled = false) (ran : HasRun (portOf p s).stallFrom 500000 s) :
    exec (.portStalled p) s = .next (settle (raise .linkFault (stallPort p s))) := by
  have due : stallDue p s = true := by
    rw [stallDue, free]
    exact (hasRun_iff _ _ s).mpr ran
  have row := whenOn_of_powered hp fun s => if stallDue p s then settle (raise .linkFault (stallPort p s)) else s
  rw [if_pos due] at row
  exact row

theorem filter_notForwarded (q : List UpFrame) : (q.filter fun f => !isForwarded f) = q.filter fun x => decide (x.rank ≠ .forwarded) := by
  have test : (fun f : UpFrame => !isForwarded f) = fun x => decide (x.rank ≠ .forwarded) := by
    funext x
    rw [isForwarded, decide_not, beq_eq_decide]
  rw [test]

theorem countP_isForwarded (q : List UpFrame) : q.countP isForwarded = q.length - (q.filter fun f => !isForwarded f).length := by
  rw [← List.countP_eq_length_filter, List.length_eq_countP_add_countP isForwarded (l := q)]
  have rest : q.countP (fun a => decide ¬isForwarded a = true) = q.countP fun f => !isForwarded f := by
    congr 1
    funext x
    cases isForwarded x <;> rfl
  rw [rest, Nat.add_sub_cancel]

theorem stallPort_b (s : State) :
    stallPort .b s =
      { s with
        link.down := [], link.b.stalled := true, link.b.stallFrom := none
        link.b.counters.stallDiscard := min 65535 (s.link.b.counters.stallDiscard + s.link.down.length)
        bud.back.resend := s.bud.back.resend || s.link.down.any (fun x => decide (x.mark ≠ .unmarked)) } := by
  rw [← any_isMarked]
  cases rdy : s.pins.rdyB <;>
    simp [stallPort, stallB, flushDown, setDown, syncStall, setPort, portOf, countOn, Counters.addStallDiscard, rdyIn, keepTimer, rdy]

/-- The C-port as it stalls: the frames of rank 3 are gone and counted, and no stall is timed. -/
def stalledC (s : State) : State :=
  let kept := s.link.up.filter fun x => decide (x.rank ≠ .forwarded)
  { s with
    link.up := kept, link.c.stalled := true, link.c.stallFrom := none
    link.c.counters.stallDiscard := min 65535 (s.link.c.counters.stallDiscard + (s.link.up.length - kept.length)) }

theorem stallPort_c (s : State) : stallPort .c s = stalledC s := by
  simp only [stalledC]
  rw [← filter_notForwarded, ← countP_isForwarded]
  cases rdy : s.pins.rdyC <;>
    simp [stallPort, stallC, setUp, syncStall, setPort, portOf, countOn, Counters.addStallDiscard, rdyIn, keepTimer, rdy]

/-- The C-port is STALLED, and so no stall of it is timed. -/
def StalledQuiet (s : State) : Prop := s.link.c.stalled = true ∧ s.link.c.stallFrom = none

theorem pushUp_stalledQuiet (r : Rank) (cls : Byte) (p : List Byte) {s : State} (h : s.link.c.stalled = true) : StalledQuiet (pushUp r cls p s) := by
  rw [pushUp_eq]
  exact ⟨h, by simp [stallFromWhenWaiting, h]⟩

theorem deliverKey_stalledQuiet {s : State} (h : StalledQuiet s) : StalledQuiet (deliverKey s) := by
  unfold deliverKey
  split
  · exact h
  · split
    · next rest _ _ =>
      unfold StalledQuiet
      rw [resyncTest_link]
      exact pushUp_stalledQuiet _ _ _ (s := { s with keys.queue := rest }) h.1
    · exact h

theorem settle_stalledQuiet {s : State} (h : StalledQuiet s) : StalledQuiet (settle s) := by
  have noticed : StalledQuiet (sendNotice s) := by
    unfold sendNotice
    split
    · exact pushUp_stalledQuiet _ _ _ (s := { s with note.outstanding := true }) h.1
    · exact h
  exact deliverKey_stalledQuiet (deliverKey_stalledQuiet (deliverKey_stalledQuiet (deliverKey_stalledQuiet noticed)))

/-- Settles O35: the link reset and the entries to STALLED as they leave the queues, and then the deliveries. -/
theorem linkResetAndStalls : Obligations.LinkResetAndStalls := by
  refine ⟨fun s hp => ⟨fun fell => ⟨?_, fun reset => ?_, fun early => ?_, fun early => ?_, fun judged => ?_⟩, fun fell released low lowFrom notJudged => ?_⟩,
    fun s hp => ⟨fun p => ?_, fun p => ?_, fun free ran => ?_, fun free ran => ?_⟩⟩
  · exact whenOn_of_powered hp fun s => s
  · exact exec_rxBreak_idle hp (.inl reset)
  · exact exec_rxBreak_idle hp (.inr fun due => absurd ((breakDue_iff fell s).mp due).1 (Nat.not_le.mpr early))
  · exact exec_rxBreak_idle hp (.inr fun due => absurd ((breakDue_iff fell s).mp due).2.1 (Nat.not_le.mpr early))
  · exact exec_rxBreak_idle hp (.inr fun due => absurd judged ((breakDue_iff fell s).mp due).2.2)
  · have row : exec (.rxBreak ⟨.c, fell⟩) s = .next (settle (linkReset { s with link.rxJudged := some fell })) := by
      rw [exec_rxBreak hp, if_neg (by rw [released]; exact Bool.false_ne_true), breakTaken,
        if_pos ((breakDue_iff fell s).mpr ⟨low, lowFrom, notJudged⟩)]
    have left := linkReset_eq { s with link.rxJudged := some fell }
    refine ⟨_, row, ?_, fun notRun => ?_, fun run => ⟨?_, ?_⟩⟩
    · have frame := settle_deliveries (linkReset { s with link.rxJudged := some fell })
      generalize settle (linkReset { s with link.rxJudged := some fell }) = t at frame ⊢
      unfold SameButDeliveries at frame
      rw [left] at frame
      exact frame
    · have quiet := settle_of_not_run (s := linkReset { s with link.rxJudged := some fell }) notRun
      rw [quiet, left]
      exact ⟨rfl, rfl, rfl⟩
    · rw [left]
      exact settle_ownEvents fun f none => (List.not_mem_nil none).elim
    · rw [left]
      exact settle_outstanding run rfl rfl
  · rw [exec_rdyInChange hp, exec_transmitStart (by cases p <;> exact hp)]
    cases p <;> rfl
  · have idle (u : State) (blocked : rdyIn p u = false) : startFrame p u = u := startFrame_of_idle (.inr (.inl blocked))
    rw [exec_rdyInChange hp, rdyChanges, idle _ (by cases p <;> rfl)]
    have timer (stalled waits : Bool) (old : Option Nat) :
        keepTimer (!false && !stalled && waits) s.clock.now old = if stalled = false ∧ waits = true then some (old.getD s.clock.now) else none := by
      cases stalled <;> cases waits <;> rfl
    rw [← timer]
    cases p <;> rfl
  · refine ⟨_, exec_portStalled hp (p := .b) free ran, ?_⟩
    rw [stallPort_b]
    exact settle_deliveries (raise .linkFault _)
  · refine ⟨_, exec_portStalled hp (p := .c) free ran, ?_⟩
    rw [stallPort_c]
    refine ⟨settle_up (raise .linkFault (stalledC s)), (settle_stalledQuiet (s := raise .linkFault (stalledC s)) ⟨rfl, rfl⟩).2, ?_⟩
    refine SameButDeliveries.trans ?_ (settle_deliveries (raise .linkFault (stalledC s)))
    exact rfl

end Sys2Proof.Machine
end

section
/-! The commands of the channels and of the budget: what is reported, what is put in force, and the allocation that follows. -/

namespace Sys2Proof.Machine

/-! ## The summaries recomputed (R51, R52) -/

/-- CHANNEL_FAULT added to the pending causes, where `rose`. -/
def withFaultIf (rose : Bool) (pending : BitVec 13) : BitVec 13 := if rose then pending ||| 2#13 else pending

theorem withFaultIf_withFaultIf (a b : Bool) (pending : BitVec 13) : withFaultIf b (withFaultIf a pending) = withFaultIf (a || b) pending := by
  cases a <;> cases b <;> simp [withFaultIf, BitVec.or_assoc]

theorem refreshSummary_eq (c : ChannelId) (s : State) :
    let b := summaryOfFlags c (channelOf c s).flags s
    refreshSummary c s = { setChannel c { channelOf c s with summary := b } s with
      note.pending := withFaultIf (!(channelOf c s).summary && b) s.note.pending } := by
  intro b
  rw [refreshSummary, raiseIf_eq]
  cases c <;> rfl

theorem refreshSummaries_eq (s : State) :
    let b0 := decide (s.chan.h0.ch.flags &&& s.cfg.channels.mask0 ≠ 0)
    let b1 := decide (s.chan.h1.ch.flags &&& s.cfg.channels.mask1 ≠ 0)
    let bF := decide (s.chan.fan.ch.flags &&& s.cfg.channels.maskF &&& 1 ≠ 0)
    refreshSummaries s = { s with
      chan.h0.ch.summary := b0, chan.h1.ch.summary := b1, chan.fan.ch.summary := bF
      note.pending := if (!s.chan.h0.ch.summary && b0) || (!s.chan.h1.ch.summary && b1) || (!s.chan.fan.ch.summary && bF)
        then s.note.pending ||| 2#13 else s.note.pending } := by
  simp only [← heaterSummary_eq]
  change _ = { s with
    chan.h0.ch.summary := _, chan.h1.ch.summary := _, chan.fan.ch.summary := _, note.pending := withFaultIf (_ || _ || _) s.note.pending }
  simp only [← withFaultIf_withFaultIf]
  simp only [refreshSummaries, refreshSummary_eq]
  rfl

/-! ## GET_CHANNEL_DIAG (R52) -/

/-- The channels with the flags of every condition that is gone cleared. -/
def flagsSettled (s : State) : State :=
  { s with
    chan.h0.ch := clearSettledFlags s.chan.h0.ch, chan.h1.ch := clearSettledFlags s.chan.h1.ch, chan.fan.ch := clearSettledFlags s.chan.fan.ch }

theorem cmdGetChannelDiag_eq (s : State) :
    cmdGetChannelDiag [] (taken s) =
      replied 0x53
        (0x00 :: (writeChannel s.chan.h0.ch ++ writeChannel s.chan.h1.ch ++ writeChannel s.chan.fan.ch ++ be16 s.chan.fan.speed
          ++ [flagByte s.chan.fan.running]))
        (refreshSummaries (flagsSettled s)) := by
  have arrival : refreshSummaries (flagsSettled (taken s)) = taken (refreshSummaries (flagsSettled s)) := by
    simp only [refreshSummaries_eq]
    rfl
  refine Eq.trans ?_ (reply_taken 0x53 .ok _ _)
  rw [← arrival]
  rfl

/-! ## CLEAR_CHANNEL_LOCK (R48) -/

/-- A channel's lock cleared, before the switches are judged again. -/
def lockCleared (c : ChannelId) (s : State) : State :=
  let x := channelOf c s
  let unlocks := x.state = .lockedOff
  setChannel c
    { x with
      trips := [], conds := x.conds &&& ~~~1#3
      state := if unlocks then .off else x.state, applied := if unlocks then 0 else x.applied }
    { s with
      chan.h0.base := if unlocks ∧ c = .h0 then 0 else s.chan.h0.base
      chan.h1.base := if unlocks ∧ c = .h1 then 0 else s.chan.h1.base }

theorem clearLock_eq (c : ChannelId) (s : State) : clearLock c s = lockCleared c s := by
  by_cases unlocks : (channelOf c s).state = .lockedOff
  · cases c <;> simp [clearLock, lockCleared, clearCondition, overcurrentBit, zeroBase, setChannel, unlocks]
  · cases c <;> simp [clearLock, lockCleared, clearCondition, overcurrentBit, setChannel, unlocks]

theorem lockCleared_taken (c : ChannelId) (s : State) : lockCleared c (taken s) = taken (lockCleared c s) := by cases c <;> rfl

theorem cmdClearChannelLock_eq {i : Byte} {c : ChannelId} (named : channelOfIndex i.toNat = some c) (s : State) :
    cmdClearChannelLock [i] (taken s) = replied 0x54 [0x00] ((lockCleared c s).switchedAs (cmdClearChannelLock [i] (taken s))) := by
  have read : u8At [i] 0 = i.toNat := rfl
  simp only [cmdClearChannelLock, List.length_singleton, ne_eq, not_true_eq_false, if_false, read, named]
  rw [clearLock_eq, lockCleared_taken]
  exact reply_taken 0x54 .ok [] ((lockCleared c s).switchedAs (syncSwitches (taken (lockCleared c s))))

/-- Settles O46: the report with the summaries recomputed, and the lock cleared with the switches judged again. -/
theorem channelCommands : Obligations.ChannelCommands := by
  intro s h
  refine ⟨⟨_, whenOn_commandArrives h fun _ => cmdGetChannelDiag [], ?_⟩, fun i large => ?_, fun i c named => ⟨_, whenOn_commandArrives h fun _ => cmdClearChannelLock [i], ?_⟩⟩
  · beta_reduce
    intro report kept u rose
    rw [cmdGetChannelDiag_eq, refreshSummaries_eq]
    simp only [u, kept, rose, flagsSettled, clearSettledFlags, BitVec.and_assoc]
    rfl
  · have unnamed : channelOfIndex (u8At [i] 0) = none := by
      have read : u8At [i] 0 = i.toNat := rfl
      rw [read]
      unfold channelOfIndex
      split
      · omega
      · omega
      · omega
      · rfl
    refine (whenOn_commandArrives h fun _ => cmdClearChannelLock [i]).trans (congrArg _ ?_)
    simp only [cmdClearChannelLock, List.length_singleton, ne_eq, not_true_eq_false, if_false, unnamed]
    exact refuse_taken 0x54 .badIndex s
  · have index : channelOfIndex i.toNat = some c := by
      simp only [List.mem_cons, List.not_mem_nil, or_false, Prod.mk.injEq] at named
      rcases named with ⟨rfl, rfl⟩ | ⟨rfl, rfl⟩ | ⟨rfl, rfl⟩ <;> rfl
    have frame := cmdClearChannelLock_eq index s
    generalize cmdClearChannelLock [i] (taken s) = t at frame ⊢
    have channel (o : ChannelId) : channelOf o t = (channelOf o (lockCleared c s)).switchedAs (channelOf o t) := by
      cases o
      · exact congrArg (fun t => t.chan.h0.ch) frame
      · exact congrArg (fun t => t.chan.h1.ch) frame
      · exact congrArg (fun t => t.chan.fan.ch) frame
    beta_reduce
    intro x y
    have cleared : y = { x with
        trips := [], conds := x.conds &&& ~~~1#3
        state := if x.state = .lockedOff then .off else x.state, applied := if x.state = .lockedOff then 0 else x.applied, on := y.on, overFrom := y.overFrom } := by
      refine (channel c).trans ?_
      rw [lockCleared, channelOf_setChannel]
      rfl
    have state := congrArg Channel.state cleared
    have applied := congrArg Channel.applied cleared
    refine ⟨congrArg Channel.trips cleared, congrArg Channel.conds cleared, (congrArg Channel.flags cleared :), (congrArg Channel.summary cleared :),
      fun unlocks => ⟨state.trans (if_pos unlocks), applied.trans (if_pos unlocks)⟩,
      fun stays => ⟨state.trans (if_neg stays), applied.trans (if_neg stays)⟩, ?_, fun o other => ?_, frame⟩
    · have onlyChannels : (lockCleared c s).switchedAs t = { s with chan.h0 := t.chan.h0, chan.h1 := t.chan.h1, chan.fan := t.chan.fan } := by
        rw [frame]
        cases c <;> rfl
      exact frame.trans (congrArg _ onlyChannels)
    · refine (channel o).trans ?_
      rw [lockCleared, channelOf_setChannel_ne (h := other)]
      cases o <;> rfl

/-! ## Settings put in force with an allocation (R57, R59, R60) -/

theorem allocatedAs_congr (s : State) {v w : State} (same : SameAllocated v w) : s.allocatedAs w = s.allocatedAs v := by
  obtain ⟨chan, bud, down, port, pending⟩ := same
  simp only [State.allocatedAs, chan, bud, down, port, pending]

/-- An allocation and a change that it neither reads nor makes may be exchanged. -/
theorem allocate_comm {f : State → State} {u : State} (unread : SameToAllocate u (f u)) (apart : ∀ v, (f u).allocatedAs v = f (u.allocatedAs v))
    (reserve : Bool) : allocate reserve (f u) = f (allocate reserve u) := by
  rw [allocate_allocatedAs reserve (f u), allocatedAs_congr (f u) (allocate_reads reserve unread), apart, ← allocate_allocatedAs]

theorem allocate_taken (reserve : Bool) (u : State) : allocate reserve (taken u) = taken (allocate reserve u) :=
  allocate_comm ⟨rfl, rfl, rfl, rfl, rfl, rfl, rfl, rfl, rfl, rfl⟩ (fun _ => rfl) reserve

theorem allocate_replied (cls : Byte) (p : List Byte) (reserve : Bool) (u : State) :
    allocate reserve (replied cls p u) = replied cls p (allocate reserve u) :=
  allocate_comm (f := replied cls p) ⟨rfl, rfl, rfl, rfl, rfl, rfl, rfl, rfl, rfl, rfl⟩ (fun _ => rfl) reserve

/-- What a command that makes an allocation leaves, the deliveries included. -/
theorem answered_allocation {cls : Byte} {p : List Byte} {u t : State}
    (delivered : SameButDeliveries (replied cls p (allocate u.lines.pwrEn u)) t) (up : (replied cls p (allocate u.lines.pwrEn u)).link.up <+: t.link.up) :
    t.cfg = u.cfg ∧ GrantsApplied t ∧ AnsweredThenDelivered cls p (allocate u.lines.pwrEn u) t
      ∧ t.bud.last = allocationOf
          { params := u.cfg.budget, reserve := u.lines.pwrEn, dF := t.chan.fan.ch.offered, d1 := t.chan.h1.ch.offered,
            d0 := t.chan.h0.ch.offered, lReq := u.bud.back.lReq, degraded := u.chan.cooling.degraded }
      ∧ (u.link.up ++ [upFrame .reply (cls + 0x80) p]) <+: t.link.up ∧ t.sup = { u.sup with arm := none } := by
  have cfg : t.cfg = (allocate u.lines.pwrEn u).cfg := (eq_of_delivered State.cfg (fun _ _ => rfl) delivered :)
  have sup : t.sup = { (allocate u.lines.pwrEn u).sup with arm := none } := (eq_of_delivered State.sup (fun _ _ => rfl) delivered :)
  have chan : t.chan = (allocate u.lines.pwrEn u).chan := (eq_of_delivered State.chan (fun _ _ => rfl) delivered :)
  have bud : t.bud = (allocate u.lines.pwrEn u).bud := (eq_of_delivered State.bud (fun _ _ => rfl) delivered :)
  have grants := allocate_grants u.lines.pwrEn u
  refine ⟨cfg.trans (allocate_cfg ..), ?_, ⟨delivered, up⟩, ?_, ?_, by rw [sup, allocate_sup]⟩
  · unfold GrantsApplied
    rw [chan, bud]
    exact grants
  · rw [bud, chan, allocate_last, allocInput_eq]
  · rw [← allocate_up u.lines.pwrEn u]
    exact up

theorem sendNotice_lines (s : State) : (sendNotice s).lines = s.lines := eq_of_delivered State.lines (fun _ _ => rfl) (sendNotice_deliveries s)

theorem u8At_zero_of_head {p : List Byte} {b : Byte} (head : p.head? = some b) : u8At p 0 = b.toNat := by
  cases p with
  | nil => cases head
  | cons x rest => cases head; rfl

theorem u8At_zero_ne_of_head {p : List Byte} {b : Byte} (some : p ≠ []) (other : p.head? ≠ .some b) : u8At p 0 ≠ b.toNat := by
  cases p with
  | nil => exact absurd rfl some
  | cons x rest => exact fun same => other (congrArg Option.some (BitVec.eq_of_toNat_eq same))

/-- A command whose last steps are an allocation, the reply and the deliveries. -/
theorem settle_reply_allocation (cls : Byte) (r : Result) (data : List Byte) (u : State) :
    settle (reply cls r data (allocateNow (taken u))) = settle (replied cls (r.code :: data) (allocate u.lines.pwrEn u)) := by
  rw [← reply_taken, ← allocate_taken]
  rfl

theorem cmdSetBudget_eq {p : List Byte} (length : p.length = 8) (s : State) :
    cmdSetBudget p (taken s) =
      settle (replied 0x52 (0x00 :: p) (allocate s.lines.pwrEn { s with cfg.budget := readBudget p })) := by
  have same : writeBudget (readBudget p) = p := by
    match p, length with
    | [b0, b1, b2, b3, b4, b5, b6, b7], _ => simp [writeBudget, readBudget, u8At, byte]
  rw [cmdSetBudget, if_neg (not_not_intro length), same]
  exact settle_reply_allocation 0x52 .ok p { s with cfg.budget := readBudget p }

theorem cmdSetThermal_sensing {p : List Byte} (length : p.length = 20) (group : u8At p 0 = 2) {policy : WarmUpPolicy}
    (known : WarmUpPolicy.ofCode (u8At p 11) = some policy) (s : State) :
    cmdSetThermal p (taken s) =
      settle (replied 0x50 ((if clampSensing (readSensing p policy) = readSensing p policy then 0x00 else 0x01) :: writeSensing (clampSensing (readSensing p policy)))
        (allocate s.lines.pwrEn { s with cfg.sensing := clampSensing (readSensing p policy) })) := by
  have other : ¬ u8At p 0 = 1 := by omega
  simp only [cmdSetThermal, if_neg (not_not_intro length), if_neg other, if_pos group, known]
  rw [← clampedIf_bne_code _ _ _ Iff.rfl]
  exact settle_reply_allocation 0x50 _ _ { s with cfg.sensing := clampSensing (readSensing p policy) }

/-- Group 1 in force, with the summaries its masks make. -/
def channelsInForce (g : ThermalChannels) (s : State) : State := refreshSummaries { s with cfg.channels := g }

theorem channelsInForce_taken (g : ThermalChannels) (s : State) : channelsInForce g (taken s) = taken (channelsInForce g s) := by
  simp only [channelsInForce, refreshSummaries_eq]
  rfl

theorem channelsInForce_lines (g : ThermalChannels) (s : State) : (channelsInForce g s).lines = s.lines := (refreshSummaries_link_lines _).2

theorem cmdSetThermal_channels {p : List Byte} (length : p.length = 20) (group : u8At p 0 = 1) (s : State) :
    cmdSetThermal p (taken s) =
      settle (allocate s.lines.pwrEn (sendNotice (replied 0x50
        ((if clampChannels (readChannels p) = readChannels p then 0x00 else 0x01) :: writeChannels (clampChannels (readChannels p)))
        (channelsInForce (clampChannels (readChannels p)) s)))) := by
  simp only [cmdSetThermal, if_neg (not_not_intro length), if_pos group]
  rw [← clampedIf_bne_code _ _ _ Iff.rfl, ← reply_taken, ← channelsInForce_taken, allocateNow, sendNotice_lines]
  change settle (allocate (channelsInForce _ (taken s)).lines.pwrEn _) = _
  rw [channelsInForce_lines]
  rfl

/-- The allocation of group 1 follows the NOTICE test, which it does not read. -/
theorem channels_allocation (cls : Byte) (p : List Byte) (u : State) :
    let t := settle (allocate u.lines.pwrEn (sendNotice (replied cls p u)))
    SameButDeliveries (replied cls p (allocate u.lines.pwrEn u)) t ∧ (replied cls p (allocate u.lines.pwrEn u)).link.up <+: t.link.up := by
  intro t
  rw [← allocate_replied]
  refine ⟨.trans (allocate_ignores _ _ _ (sendNotice_deliveries _)) (settle_deliveries _), List.IsPrefix.trans ?_ (settle_up _)⟩
  rw [allocate_up, allocate_up]
  exact sendNotice_up _

theorem allocate_summary (reserve : Bool) (u : State) (c : ChannelId) : (channelOf c (allocate reserve u)).summary = (channelOf c u).summary := by
  cases c <;> rw [allocate_allocatedAs] <;> rfl

/-- Settles O43: each set command in the order of its steps, with one lemma for what an allocation leaves that is answered and delivered. -/
theorem thermalAndBudget : Obligations.ThermalAndBudget := by
  intro p s h clamp allocated
  have set_ (t : State) (row : cmdSetThermal p (taken s) = t) : exec (.setThermal p) s = .next t :=
    row ▸ whenOn_commandArrives h fun _ => cmdSetThermal p
  refine ⟨fun length head => ⟨_, set_ _ (cmdSetThermal_channels length (u8At_zero_of_head head) s), ?_⟩, fun length head known => ?_,
    fun length head unknown => set_ _ ?_, fun length not1 not2 => set_ _ ?_,
    fun length => ⟨_, (whenOn_commandArrives h fun _ => cmdSetBudget p).trans (congrArg _ (cmdSetBudget_eq length s)), ?_⟩, ?_, ?_, fun g not1 not2 => ?_⟩
  · beta_reduce
    intro on full g summary0 summary1 summaryF rose u
    have clamped : clampChannels (readChannels p) = g := rfl
    have inForce : channelsInForce g s = u := refreshSummaries_eq { s with cfg.channels := g }
    rw [clamped, inForce]
    obtain ⟨delivered, up⟩ := channels_allocation 0x50 ((if g = readChannels p then 0x00 else 0x01) :: writeChannels g) u
    have summary (c : ChannelId) : (channelOf c _).summary = (channelOf c u).summary :=
      (eq_of_delivered (fun t => (channelOf c t).summary) (fun s u => by cases c <;> rfl) delivered).trans
        ((by cases c <;> rfl : _ = (channelOf c (allocate u.lines.pwrEn u)).summary).trans (allocate_summary ..))
    refine ⟨?_, ?_, ?_, ?_, ?_⟩
    · exact answered_allocation delivered up
    · exact rfl
    · exact summary .h0
    · exact summary .h1
    · exact summary .fan
  · have group : u8At p 0 = 2 := u8At_zero_of_head head
    let policy : WarmUpPolicy := if u8At p 11 = 0 then .bootAnyway else .keepHeating
    have named : WarmUpPolicy.ofCode (u8At p 11) = some policy := by
      obtain boot | keep : u8At p 11 = 0 ∨ u8At p 11 = 1 := by omega
      · simp only [policy, boot, if_true]
        rfl
      · simp only [policy, keep, one_ne_zero, if_false]
        rfl
    refine ⟨_, set_ _ (cmdSetThermal_sensing length group named s), ?_⟩
    exact answered_allocation (u := { s with cfg.sensing := clampSensing (readSensing p policy) }) (settle_deliveries _) (settle_up _)
  · have group : u8At p 0 = 2 := u8At_zero_of_head head
    have other : ¬ u8At p 0 = 1 := by omega
    have none : WarmUpPolicy.ofCode (u8At p 11) = none := by
      unfold WarmUpPolicy.ofCode
      split
      · omega
      · omega
      · rfl
    simp only [cmdSetThermal, if_neg (not_not_intro length), if_neg other, if_pos group, none]
    exact refuse_taken 0x50 .badValue s
  · have some : p ≠ [] := fun none => by rw [none] at length; exact absurd length (by decide)
    have other1 : ¬ u8At p 0 = 1 := u8At_zero_ne_of_head some not1
    have other2 : ¬ u8At p 0 = 2 := u8At_zero_ne_of_head some not2
    rw [cmdSetThermal, if_neg (not_not_intro length), if_neg other1, if_neg other2]
    exact refuse_taken 0x50 .badIndex s
  · exact answered_allocation (settle_deliveries _) (settle_up _)
  · exact (whenOn_commandArrives h fun _ => cmdGetThermal [0x01]).trans (congrArg _ (reply_taken 0x51 .ok _ s))
  · exact (whenOn_commandArrives h fun _ => cmdGetThermal [0x02]).trans (congrArg _ (reply_taken 0x51 .ok _ s))
  · have other1 : ¬ u8At [g] 0 = 1 := fun same => not1 (BitVec.eq_of_toNat_eq same)
    have other2 : ¬ u8At [g] 0 = 2 := fun same => not2 (BitVec.eq_of_toNat_eq same)
    refine (whenOn_commandArrives h fun _ => cmdGetThermal [g]).trans (congrArg _ ?_)
    rw [cmdGetThermal, if_neg (not_not_intro List.length_singleton), if_neg other1, if_neg other2]
    exact refuse_taken 0x51 .badIndex s

end Sys2Proof.Machine
end

section
/-! The commands of the pass table: the judgement of an entry and of an answer record as the chain of their checks. -/

namespace Sys2Proof.Machine

/-- A chain of tests is settled test by test. -/
theorem ite_of {c a b : Prop} [Decidable c] (yes : c → a) (no : ¬ c → b) : if c then a else b := by
  split
  · next h => exact yes h
  · next h => exact no h

/-! ## The fields of an entry (R103, R104) -/

/-- The action a code names, for the codes that name one. -/
def actionOfByte (act : Byte) : PassAction :=
  if act = 0 then .forward else if act = 1 then .drop else if act = 2 then .heartbeat else if act = 3 then .clampLevel else .answer

theorem PassAction.ofCode_eq (act : Byte) : PassAction.ofCode act.toNat = if 4 < act.toNat then none else some (actionOfByte act) := by
  revert act
  decide

theorem actionOfByte_heartbeat {act : Byte} (known : act.toNat ≤ 4) : actionOfByte act = .heartbeat ↔ act = 2 := by
  revert act
  decide

theorem actionOfByte_clampLevel {act : Byte} (known : act.toNat ≤ 4) : actionOfByte act = .clampLevel ↔ act = 3 := by
  revert act
  decide

theorem Direction.ofCode_eq (dir : Byte) : Direction.ofCode dir.toNat = if 1 < dir.toNat then none else some (if dir = 0 then .down else .up) := by
  revert dir
  decide

theorem direction_up {dir : Byte} (known : dir.toNat ≤ 1) : (if dir = 0 then Direction.down else .up) = .up ↔ dir = 1 := by
  revert dir
  decide

theorem isClamp_iff (d : PassDef) : isClamp d = true ↔ d.active = true ∧ d.action = .clampLevel := by
  rw [isClamp, Bool.and_eq_true, beq_iff_eq]

/-- Whether the entry at an index is an ACTIVE CLAMP_LEVEL entry. -/
def clampAt (l : List PassDef) (j : Nat) : Bool := (l[j]?).any fun e => e.active && decide (e.action = .clampLevel)

theorem clampAt_eq (l : List PassDef) (j : Nat) : clampAt l j = isClamp (l.getD j PassDef.factory) := by
  have test (d : PassDef) : (d.active && decide (d.action = .clampLevel)) = isClamp d := by rw [isClamp, beq_eq_decide]
  rw [clampAt, List.getD_eq_getElem?_getD]
  cases l[j]? with
  | none => rfl
  | some d => exact test d

theorem clampElsewhere_iff_clampAt (i : Nat) (l : List PassDef) : clampElsewhere i l = true ↔ ∃ j < l.length, j ≠ i ∧ clampAt l j = true := by
  rw [clampElsewhere_iff]
  constructor
  · rintro ⟨j, d, other, at_, clamp⟩
    have here : l.getD j PassDef.factory = d := by rw [List.getD_eq_getElem?_getD, at_]; rfl
    exact ⟨j, (List.getElem?_eq_some_iff.mp at_).1, other, by rw [clampAt_eq, here]; exact clamp⟩
  · rintro ⟨j, inside, other, clamp⟩
    rw [clampAt_eq, List.getD_eq_getElem _ _ inside] at clamp
    exact ⟨j, l[j], other, List.getElem?_eq_getElem inside, clamp⟩

/-- The bytes of SET_PASS_ENTRY. -/
structure EntryBytes where
  (i st dir act any node cv cm sp sel ph tok fw lv an : Byte)

def EntryBytes.payload (b : EntryBytes) : List Byte :=
  [b.i, b.st, b.dir, b.act, b.any, b.node, b.cv, b.cm, b.sp, b.sel, b.ph, b.tok, b.fw, b.lv, b.an]

theorem EntryBytes.payload_length (b : EntryBytes) : b.payload.length = 15 := rfl

/-- The definition that the bytes carry. -/
def EntryBytes.entry (b : EntryBytes) : PassDef :=
  { active := b.st == 1, direction := if b.dir = 0 then .down else .up, action := actionOfByte b.act
    nodeAny := b.any != 0, node := b.node, clsValue := b.cv, clsMask := b.cm, selectorPresent := b.sp != 0, selector := b.sel, phases := b.ph,
    tokenOffset := b.tok, forward := b.fw != 0, levelOffset := b.lv, answerIndex := b.an }

theorem judgePassEntry_unknown {b : EntryBytes} (bad : 1 < b.st.toNat ∨ 1 < b.dir.toNat ∨ 4 < b.act.toNat)
    (index : ¬ (b.st.toNat = 1 ∧ b.act.toNat = 4 ∧ 7 < b.an.toNat)) (s : State) : judgePassEntry b.payload s = .error .badValue := by
  have u8 : u8At b.payload 1 = b.st.toNat ∧ u8At b.payload 2 = b.dir.toNat ∧ u8At b.payload 3 = b.act.toNat ∧ u8At b.payload 14 = b.an.toNat :=
    ⟨rfl, rfl, rfl, rfl⟩
  obtain ⟨st, dir, act, an⟩ := u8
  rw [judgePassEntry]
  simp only [st, dir, act, an, if_neg index, PassAction.ofCode_eq, Direction.ofCode_eq]
  rcases bad with bad | bad | bad
  · rw [boolOfCode_eq_none bad]
  · rw [if_pos bad]
    cases boolOfCode b.st.toNat <;> rfl
  · rw [if_pos bad]
    generalize (if 1 < b.dir.toNat then none else some (if b.dir = 0 then Direction.down else .up)) = direction
    cases boolOfCode b.st.toNat <;> cases direction <;> rfl

/-- The checks on known codes, in their order. -/
theorem judgePassEntry_known {b : EntryBytes} (st : b.st.toNat ≤ 1) (dir : b.dir.toNat ≤ 1) (act : b.act.toNat ≤ 4)
    (index : ¬ (b.st.toNat = 1 ∧ b.act.toNat = 4 ∧ 7 < b.an.toNat)) (s : State) :
    judgePassEntry b.payload s =
      if b.st = 1 ∧ (b.act = 2 ∨ b.act = 3) ∧ b.dir = 1 then .error .badValue
      else if b.st = 1 ∧ b.act = 2 ∧ 31 < b.tok.toNat ∧ b.tok ≠ 0xFF then .error .badValue
      else if b.st = 1 ∧ b.act = 3 ∧ 31 < b.lv.toNat then .error .badValue
      else if b.st = 1 ∧ b.act = 3 ∧ ∃ j < s.cfg.pass.length, j ≠ b.i.toNat ∧ clampAt s.cfg.pass j = true then .error .conflict
      else .ok b.entry := by
  have u8 : u8At b.payload 0 = b.i.toNat ∧ u8At b.payload 1 = b.st.toNat ∧ u8At b.payload 2 = b.dir.toNat ∧ u8At b.payload 3 = b.act.toNat ∧ u8At b.payload 14 = b.an.toNat :=
    ⟨rfl, rfl, rfl, rfl, rfl⟩
  obtain ⟨i', st', dir', act', an'⟩ := u8
  have read : readPassDef b.payload (b.st == 1) (if b.dir = 0 then .down else .up) (actionOfByte b.act) = b.entry := rfl
  have clamps : isClamp b.entry = true ↔ b.st = 1 ∧ b.act = 3 := by
    have active : b.entry.active = true ↔ b.st = 1 := beq_iff_eq
    rw [isClamp_iff, active]
    exact and_congr_right' (actionOfByte_clampLevel act)
  have tok : b.entry.tokenOffset = b.tok := rfl
  have lv : b.entry.levelOffset = b.lv := rfl
  rw [judgePassEntry]
  simp only [i', st', dir', act', an', if_neg index, PassAction.ofCode_eq, Direction.ofCode_eq, (boolOfCode_flag st).1, if_neg (Nat.not_lt.mpr dir),
    if_neg (Nat.not_lt.mpr act), read, clamps, tok, lv, direction_up dir, actionOfByte_heartbeat act, actionOfByte_clampLevel act, clampElsewhere_iff_clampAt,
    beq_iff_eq, and_assoc]

theorem writeEntry_eq (i : Nat) (d : PassDef) (s : State) :
    writeEntry i d s =
      { s with
        cfg.pass := s.cfg.pass.set i d
        pass := s.pass.set i { hits := 0, special := 0, lastHit := none }
        sup.entryTokens := s.sup.entryTokens.set i none
        bud.back.template := if clampAt s.cfg.pass i then none else s.bud.back.template
        bud.back.levelOffset := if clampAt s.cfg.pass i then none else s.bud.back.levelOffset } := by
  rw [clampAt_eq]
  rfl

theorem cmdSetPassEntry_judged {b : EntryBytes} (small : b.i.toNat ≤ 31) {s : State} {d : Except Result PassDef} (judged : judgePassEntry b.payload s = d) :
    cmdSetPassEntry b.payload (taken s) =
      match d with
      | .error e => replied 0x48 [e.code] s
      | .ok d => replied 0x48 [0x00] (writeEntry b.i.toNat d s) := by
  have index : ¬ 31 < u8At b.payload 0 := Nat.not_lt.mpr small
  have same : judgePassEntry b.payload (taken s) = d := judged
  rw [cmdSetPassEntry, if_neg (not_not_intro b.payload_length), if_neg index, same]
  cases d with
  | error e => exact refuse_taken 0x48 e s
  | ok d => exact reply_taken 0x48 .ok [] (writeEntry b.i.toNat d s)

/-- SET_PASS_ENTRY by its chain of checks. -/
theorem setPassEntry_chain (b : EntryBytes) {s : State} (h : TakesCommands s) :
    let run := exec (.setPassEntry b.payload) s
    let answers (code : Byte) : Prop := run = .next (replied 0x48 [code] s)
    if 31 < b.i.toNat then answers 0x12
    else if b.st = 1 ∧ b.act = 4 ∧ 7 < b.an.toNat then answers 0x12
    else if 1 < b.st.toNat ∨ 1 < b.dir.toNat ∨ 4 < b.act.toNat then answers 0x13
    else if b.st = 1 ∧ (b.act = 2 ∨ b.act = 3) ∧ b.dir = 1 then answers 0x13
    else if b.st = 1 ∧ b.act = 2 ∧ 31 < b.tok.toNat ∧ b.tok ≠ 0xFF then answers 0x13
    else if b.st = 1 ∧ b.act = 3 ∧ 31 < b.lv.toNat then answers 0x13
    else if b.st = 1 ∧ b.act = 3 ∧ ∃ j < s.cfg.pass.length, j ≠ b.i.toNat ∧ clampAt s.cfg.pass j = true then answers 0x16
    else run = .next (replied 0x48 [0x00] (writeEntry b.i.toNat b.entry s)) := by
  intro run answers
  have row {t : State} (same : cmdSetPassEntry b.payload (taken s) = t) : run = .next t :=
    same ▸ whenOn_commandArrives h fun _ => cmdSetPassEntry b.payload
  refine ite_of (fun large => row ?_) fun small => ?_
  · have index : 31 < u8At b.payload 0 := large
    rw [cmdSetPassEntry, if_neg (not_not_intro b.payload_length), if_pos index]
    exact refuse_taken 0x48 .badIndex s
  have inTable : b.i.toNat ≤ 31 := Nat.not_lt.mp small
  have codes : (b.st = 1 ∧ b.act = 4 ∧ 7 < b.an.toNat) ↔ b.st.toNat = 1 ∧ b.act.toNat = 4 ∧ 7 < b.an.toNat := by
    rw [← BitVec.toNat_inj, ← BitVec.toNat_inj]
    rfl
  refine ite_of (fun large => row ?_) fun index => ?_
  · have judged : judgePassEntry b.payload s = .error .badIndex := by
      rw [judgePassEntry]
      exact if_pos (codes.mp large)
    exact cmdSetPassEntry_judged inTable judged
  rw [codes] at index
  refine ite_of (fun bad => row (cmdSetPassEntry_judged inTable (judgePassEntry_unknown bad index s))) fun known => ?_
  obtain ⟨st, dir, act⟩ : b.st.toNat ≤ 1 ∧ b.dir.toNat ≤ 1 ∧ b.act.toNat ≤ 4 := by omega
  have judged := judgePassEntry_known st dir act index s
  refine ite_of (fun up => row (cmdSetPassEntry_judged inTable (judged.trans (if_pos up)))) fun notUp => ?_
  rw [if_neg notUp] at judged
  refine ite_of (fun token => row (cmdSetPassEntry_judged inTable (judged.trans (if_pos token)))) fun noToken => ?_
  rw [if_neg noToken] at judged
  refine ite_of (fun level => row (cmdSetPassEntry_judged inTable (judged.trans (if_pos level)))) fun noLevel => ?_
  rw [if_neg noLevel] at judged
  refine ite_of (fun conflict => row (cmdSetPassEntry_judged inTable (judged.trans (if_pos conflict)))) fun free => ?_
  rw [if_neg free] at judged
  exact row (cmdSetPassEntry_judged inTable judged)

/-! ## Reading back (R104, R106) -/

theorem writeCounts_eq (c : EntryCounts) :
    writeCounts c = be16 c.hits ++ be16 c.special
      ++ c.lastHit.elim (0x00 :: be32 Config.absentLastHit.toNat) (fun stamp => 0x01 :: be32 stamp.toNat) := by
  rw [writeCounts]
  cases c.lastHit <;> simp [flagByte]

/-! ## Answer records (R102) -/

/-- A live field covers a byte of the payload. -/
def Covers (o : Byte) (width n : Nat) : Prop := o ≠ 0xFF ∧ o.toNat ≤ n ∧ n < o.toNat + width

theorem mem_liveBytes_iff_covers (o : Byte) (width n : Nat) : n ∈ liveBytes o width ↔ Covers o width n := by
  have absent : o ≠ 0xFF ↔ o.toNat ≠ 255 := not_congr BitVec.toNat_inj.symm
  rw [mem_liveBytes, Covers, absent]

theorem liveBytes_nodup (o : Byte) (width : Nat) : (liveBytes o width).Nodup := by
  unfold liveBytes
  split
  · exact List.nodup_nil
  · exact List.nodup_range.map fun a b same => Nat.add_left_cancel same

theorem liveBytes_inside {o : Byte} {width size : Nat} (some : 0 < width) :
    (∀ n ∈ liveBytes o width, n < size) ↔ o = 0xFF ∨ o.toNat + width ≤ size := by
  simp only [mem_liveBytes_iff_covers, Covers]
  by_cases absent : o = 0xFF
  · exact iff_of_true (fun n covers => absurd absent covers.1) (.inl absent)
  · refine ⟨fun inside => .inr ?_, fun inside n covers => ?_⟩
    · have last := inside (o.toNat + width - 1) ⟨absent, by omega, by omega⟩
      omega
    · have fits := inside.resolve_left absent
      omega

theorem liveBytes_apart {o o' : Byte} {width width' : Nat} (narrow : width ≤ 2) :
    (∀ a ∈ liveBytes o width, ∀ b ∈ liveBytes o' width', a ≠ b) ↔ ∀ n < 256 + 2, ¬ (Covers o width n ∧ Covers o' width' n) := by
  simp only [mem_liveBytes_iff_covers]
  refine ⟨fun apart n _ both => apart n both.1 n both.2 rfl, fun apart a covers b covers' same => ?_⟩
  have byte := o.isLt
  have small : a < 256 + 2 := by
    have high := covers.2.2
    omega
  exact apart a small ⟨covers, same ▸ covers'⟩

/-- R102 in the words of its obligation. -/
theorem liveFieldsFit_iff (a : Answer) :
    liveFieldsFit a = true ↔
      (a.phaseOffset = 0xFF ∨ a.phaseOffset.toNat + 1 ≤ a.template.length) ∧ (a.boardOffset = 0xFF ∨ a.boardOffset.toNat + 2 ≤ a.template.length)
      ∧ (a.soakOffset = 0xFF ∨ a.soakOffset.toNat + 2 ≤ a.template.length)
      ∧ ∀ n < 256 + 2, ¬ (Covers a.phaseOffset 1 n ∧ Covers a.boardOffset 2 n) ∧ ¬ (Covers a.phaseOffset 1 n ∧ Covers a.soakOffset 2 n)
        ∧ ¬ (Covers a.boardOffset 2 n ∧ Covers a.soakOffset 2 n) := by
  have split (p b s : List Nat) : (p ++ b ++ s).Nodup ↔ (p.Nodup ∧ b.Nodup ∧ s.Nodup) ∧ (∀ x ∈ p, ∀ y ∈ b, x ≠ y)
      ∧ (∀ x ∈ p, ∀ y ∈ s, x ≠ y) ∧ ∀ x ∈ b, ∀ y ∈ s, x ≠ y := by
    simp only [List.nodup_append, List.mem_append, or_imp, forall_and]
    tauto
  rw [liveFieldsFit, Bool.and_eq_true, List.all_eq_true, decide_eq_true_iff]
  simp only [decide_eq_true_eq, allLiveBytes, split, List.mem_append, or_imp, forall_and,
    liveBytes_nodup, liveBytes_inside Nat.one_pos, liveBytes_inside Nat.two_pos, liveBytes_apart (Nat.le_succ 1), liveBytes_apart (le_refl 2),
    and_assoc, true_and]

/-- The bytes of SET_ANSWER. -/
def setAnswerPayload (i cls po bo so : Byte) (template : List Byte) : List Byte := [i, cls, po, bo, so, byte template.length] ++ template

theorem cmdSetAnswer_eq {i cls po bo so : Byte} {template : List Byte} (short : template.length ≤ 16) (s : State) :
    let a : Answer := { cls := cls, phaseOffset := po, boardOffset := bo, soakOffset := so, template := template }
    cmdSetAnswer (setAnswerPayload i cls po bo so template) (taken s) =
      if 7 < i.toNat then replied 0x4A [0x12] s
      else if liveFieldsFit a = true then replied 0x4A [0x00] { s with cfg.answers := s.cfg.answers.set i.toNat a }
      else replied 0x4A [0x13] s := by
  intro a
  have size : u8At (setAnswerPayload i cls po bo so template) 5 = template.length := byte_toNat (by omega)
  have length : (setAnswerPayload i cls po bo so template).length = 6 + template.length := by rw [setAnswerPayload, List.length_append]; rfl
  have read : readAnswer (setAnswerPayload i cls po bo so template) = a := rfl
  have index : u8At (setAnswerPayload i cls po bo so template) 0 = i.toNat := rfl
  have fits : ¬ (6 + template.length < 6 ∨ 6 + template.length ≠ 6 + template.length) := by omega
  rw [cmdSetAnswer, size, length, read, index, if_neg fits, if_neg (Nat.not_lt.mpr short)]
  split
  · exact refuse_taken 0x4A .badIndex s
  · cases liveFieldsFit a
    · exact refuse_taken 0x4A .badValue s
    · exact reply_taken 0x4A .ok [] { s with cfg.answers := s.cfg.answers.set i.toNat a }

/-- Settles O44: the set commands by their chains of checks, the get commands by what they write. -/
theorem passTableCommands : Obligations.PassTableCommands := by
  refine ⟨⟨fun i st dir act any node cv cm sp sel ph tok fw lv an s h => ?_, fun i s h => ⟨fun large => ?_, fun d c inTable entry counts => ?_⟩⟩,
    fun i cls po bo so template s h short => ?_, fun i s h => ⟨fun large => ?_, fun a inTable record => ?_⟩⟩
  · have chain := setPassEntry_chain { i, st, dir, act, any, node, cv, cm, sp, sel, ph, tok, fw, lv, an } h
    simp only [writeEntry_eq] at chain
    exact chain
  · refine (whenOn_commandArrives h fun _ => cmdGetPassEntry [i]).trans (congrArg _ ?_)
    have index : 31 < u8At [i] 0 := large
    rw [cmdGetPassEntry, if_neg (not_not_intro List.length_singleton), if_pos index]
    exact refuse_taken 0x49 .badIndex s
  · refine (whenOn_commandArrives h fun _ => cmdGetPassEntry [i]).trans (congrArg _ ?_)
    have index : ¬ 31 < u8At [i] 0 := Nat.not_lt.mpr inTable
    have definition : (taken s).cfg.pass.getD (u8At [i] 0) PassDef.factory = d := (List.getD_eq_getElem?_getD ..).trans (congrArg (Option.getD · _) entry)
    have record : (taken s).pass.getD (u8At [i] 0) EntryCounts.zero = c := (List.getD_eq_getElem?_getD ..).trans (congrArg (Option.getD · _) counts)
    rw [cmdGetPassEntry, if_neg (not_not_intro List.length_singleton), if_neg index, definition, record, writeCounts_eq, reply_taken]
    simp only [List.cons_append, List.append_assoc]
    rfl
  · intro run a covers inside apart
    have row : run = _ := (whenOn_commandArrives h fun _ => cmdSetAnswer (setAnswerPayload i cls po bo so template)).trans (congrArg _ (cmdSetAnswer_eq short s))
    refine ite_of (fun large => row.trans (congrArg _ (if_pos large))) fun small => ?_
    rw [if_neg small] at row
    refine ite_of (fun fit => row.trans (congrArg _ (if_pos ((liveFieldsFit_iff a).mpr fit)))) fun unfit => ?_
    exact row.trans (congrArg _ (if_neg (mt (liveFieldsFit_iff a).mp unfit)))
  · refine (whenOn_commandArrives h fun _ => cmdGetAnswer [i]).trans (congrArg _ ?_)
    have index : 7 < u8At [i] 0 := large
    rw [cmdGetAnswer, if_neg (not_not_intro List.length_singleton), if_pos index]
    exact refuse_taken 0x4B .badIndex s
  · refine (whenOn_commandArrives h fun _ => cmdGetAnswer [i]).trans (congrArg _ ?_)
    have index : ¬ 7 < u8At [i] 0 := Nat.not_lt.mpr inTable
    have same : answerRecord (u8At [i] 0) (taken s) = a := (List.getD_eq_getElem?_getD ..).trans (congrArg (Option.getD · _) record)
    rw [cmdGetAnswer, if_neg (not_not_intro List.length_singleton), if_neg index, same]
    exact reply_taken 0x4B .ok _ s

end Sys2Proof.Machine
end

section
/-! The power-on reset, and the store that survives it. -/

namespace Sys2Proof.Machine

/-! ## What a reset starts from (R6, R153) -/

/-- The settings a power-on reset loads, where the image area holds a good image. -/
def loadedAtReset (s : State) : Option Settings := goodSettings (areaAtReset s)

/-- Every block as its chapter starts it, before the PREHEAT entry. -/
def started (rateHigh : Bool) (s : State) : State :=
  { State.cold ((loadedAtReset s).getD Settings.factory) s.pins rateHigh
      { area := areaAtReset s, shadow := loadedAtReset s, programming := none, capture := none }
      (if (loadedAtReset s).isSome then 0 else causeBit .settingsDefaulted) with
    pending := s.pending, pace := s.pace, draw := s.draw }

theorem enterOff_started (rateHigh : Bool) (s : State) : enterOff .preheat (started rateHigh s) = allocate false (started rateHigh s) := by
  refine congrArg (allocate false) ?_
  cases rdy : s.pins.rdyC <;>
    simp [started, State.cold, Port.cold, beginPhase, stopSupervision, assertReset, powerOff, setUp, syncStall, setPort, portOf, rdyIn, holdsFrame, keepTimer, rdy]

theorem powerOn_eq (rateHigh : Bool) (s : State) :
    powerOn rateHigh s =
      { allocate false (started rateHigh s) with
        ctl.warmUp := .running ((started rateHigh s).cfg.sensing.warmUpLimit * 60000000) } := by
  have begun : preheatBegun (started rateHigh s) =
      { allocate false (started rateHigh s) with
        ctl.warmUp := .running ((started rateHigh s).cfg.sensing.warmUpLimit * 60000000) } := by
    unfold preheatBegun
    rw [enterOff_started, allocate_clock, allocate_cfg]
    have zero : (started rateHigh s).clock.now = 0 := rfl
    rw [zero, Nat.zero_add]
    rfl
  have incomplete : ¬ (preheatBegun (started rateHigh s)).sens.gate.complete = true := by
    rw [begun]
    simp only [allocate_sens]
    exact Bool.false_ne_true
  have entered : powerOn rateHigh s = enterPreheat (started rateHigh s) := rfl
  rw [entered, enterPreheat_eq, if_neg incomplete, begun]

/-- The blocks as they start, with the budget unit as the first allocation leaves it where it leaves the channels as `chan`. -/
def firstAllocated (rateHigh : Bool) (s : State) (chan : ChannelUnit) (a : Allocation) (limited : Bool) : State :=
  let u := started rateHigh s
  { u with
    chan := chan
    bud := { last := a, limitedRun := if limited then 1 else 0, periodAt := 0
             back := { lReq := u.cfg.budget.lInit, lFwd := u.cfg.budget.lInit, template := none, levelOffset := none, clamped := false
                       resend := false, ceiling := a.ceiling, unenforced := decide (a.ceiling < u.cfg.budget.lInit) } } }

theorem stages_started (rateHigh : Bool) (s : State) (chan : ChannelUnit) (a : Allocation) (limited : Bool) :
    judgeUnenforced (sendLevel (countLimited limited { started rateHigh s with chan := chan, bud.last := a, bud.back.ceiling := a.ceiling })) =
      firstAllocated rateHigh s chan a limited := by
  cases limited <;> rfl

/-- What the first allocation grants on. -/
def firstInput (rateHigh : Bool) (s : State) (chan : ChannelUnit) : AllocInput :=
  { params := (started rateHigh s).cfg.budget, reserve := false, dF := chan.fan.ch.offered, d1 := chan.h1.ch.offered, d0 := chan.h0.ch.offered,
    lReq := (started rateHigh s).cfg.budget.lInit, degraded := false }

/-- The first allocation: no level frame can be due, and no limited run can have come to its end. -/
theorem allocate_started (rateHigh : Bool) (s : State) :
    let chan := (allocate false (started rateHigh s)).chan
    let i := firstInput rateHigh s chan
    allocate false (started rateHigh s) = firstAllocated rateHigh s chan (allocationOf i) (isLimited i) := by
  intro chan i
  have stages := allocate_stages false (started rateHigh s)
  simp only [allocInput_eq] at stages
  exact stages.trans (stages_started ..)

theorem coldChannel_kept {x : Channel} {st : ChannelState} (same : x = (Channel.cold st).allocatedAs x) :
    x.holdOff = false ∧ x.trips = [] ∧ x.flags = 0 ∧ x.conds = 0 ∧ x.summary = false :=
  ⟨congrArg (fun c => c.holdOff) same, congrArg (fun c => c.trips) same, congrArg (fun c => c.flags) same, congrArg (fun c => c.conds) same,
    congrArg (fun c => c.summary) same⟩

/-- Settles O4: the allocation of the PREHEAT entry on the blocks as they start. -/
theorem powerOnResetState : Obligations.PowerOnResetState := by
  intro rateHigh s
  refine ⟨powerOn rateHigh s, rfl, ?_⟩
  have whole := allocate_started rateHigh s
  have frame := allocate_allocatedAs false (started rateHigh s)
  have grants := allocate_grants false (started rateHigh s)
  have charge := allocate_compCharge_false (started rateHigh s)
  obtain ⟨-, -, -, -, offered0, -⟩ := allocate_heater false (started rateHigh s) .h0
  obtain ⟨-, -, -, -, offered1, -⟩ := allocate_heater false (started rateHigh s) .h1
  obtain ⟨-, -, -, offeredF, running⟩ := allocate_fan false (started rateHigh s)
  have inhibited (i : HeaterId) (low : (started rateHigh s).chan.inhibit = true) := allocate_heater_inhibited (reserve := false) low i
  rw [powerOn_eq]
  generalize allocate false (started rateHigh s) = v at whole frame grants charge offered0 offered1 offeredF running inhibited ⊢
  obtain ⟨chan, known⟩ : ∃ chan, v.chan = chan := ⟨_, rfl⟩
  simp only [known] at whole
  subst whole
  have unit := congrArg State.chan frame
  have kept (x : Channel) (mem : x ∈ [chan.h0.ch, chan.h1.ch, chan.fan.ch]) :
      x.holdOff = false ∧ x.trips = [] ∧ x.flags = 0 ∧ x.conds = 0 ∧ x.summary = false := by
    simp only [List.mem_cons, List.not_mem_nil, or_false] at mem
    rcases mem with rfl | rfl | rfl
    · exact coldChannel_kept (congrArg (fun c => c.h0.ch) unit)
    · exact coldChannel_kept (congrArg (fun c => c.h1.ch) unit)
    · exact coldChannel_kept (congrArg (fun c => c.fan.ch) unit)
  have heat (x : Heater) (mem : x ∈ [chan.h0, chan.h1]) :
      if s.pins.heatInhLow then x.ch.applied = 0 ∧ x.ch.state = .inhibited else x.ch.offered = 8 := by
    simp only [List.mem_cons, List.not_mem_nil, or_false] at mem
    have cold (i : HeaterId) (low : s.pins.heatInhLow = true) : (heaterOf i (started rateHigh s)).ch.state ≠ .lockedOff := by
      have state : (heaterOf i (started rateHigh s)).ch.state = (Heater.cold s.pins.heatInhLow).ch.state := by cases i <;> rfl
      rw [state, low]
      decide
    have base (i : HeaterId) : (heaterOf i (started rateHigh s)).base = 0 := by cases i <;> rfl
    have asked (i : HeaterId) (high : s.pins.heatInhLow = false) : demandOf i (started rateHigh s) = 16 := by
      cases i <;> simp [demandOf, started, State.cold, heaterDemand, Heater.cold, Channel.cold, high]
    refine ite_of (fun low => ?_) fun high => ?_
    · obtain ⟨-, applied0, -, -, state0⟩ := inhibited .h0 low
      obtain ⟨-, applied1, -, -, state1⟩ := inhibited .h1 low
      rcases mem with rfl | rfl
      · exact ⟨applied0, state0.trans (if_neg (cold .h0 low))⟩
      · exact ⟨applied1, state1.trans (if_neg (cold .h1 low))⟩
    · rw [asked _ (Bool.not_eq_true _ ▸ high), base] at offered0 offered1
      rcases mem with rfl | rfl
      · exact offered0
      · exact offered1
  have ports (x : Port) (mem : x ∈ [Port.cold, Port.cold]) :
      x.assembly = [] ∧ x.sending = none ∧ x.stalled = false ∧ x.stallFrom = none
        ∧ x.counters = { good := 0, check := 0, length := 0, timeout := 0, misrouted := 0, overflow := 0, stallDiscard := 0, resetDiscard := 0 } := by
    simp only [List.mem_cons, List.not_mem_nil, or_false, or_self] at mem
    subst mem
    exact ⟨rfl, rfl, rfl, rfl, rfl⟩
  have fan : chan.fan.ch.offered = 64 := offeredF
  exact ⟨rfl, rfl, rfl, rfl, rfl, rfl, rfl, rfl, rfl, ⟨rfl, rfl, rfl, rfl, rfl⟩, charge, grants, rfl, kept, heat, congrArg ChannelUnit.inhibit unit,
    congrArg ChannelUnit.inhRise unit, fan, running, congrArg (fun c => c.fan.speed) unit, congrArg (fun c => c.fan.lastPulse) unit,
    congrArg ChannelUnit.cooling unit, ⟨rfl, rfl, rfl⟩, rfl, rfl, rfl, rfl, ⟨rfl, rfl, rfl, rfl, rfl⟩, ⟨rfl, rfl, rfl⟩, rfl, ⟨rfl, rfl, rfl⟩, rfl, rfl, rfl,
    ports, rfl, rfl, rfl, rfl, rfl, ⟨rfl, rfl⟩, rfl, rfl⟩

/-! ## The image (R152) -/

theorem be16_eq_iff {x y : Byte} {n : Nat} (small : n < 65536) : [x, y] = be16 n ↔ x.toNat * 256 + y.toNat = n := by
  have hx := x.isLt
  have hy := y.isLt
  simp only [be16, List.cons.injEq, and_true, ← BitVec.toNat_inj, byte, BitVec.toNat_ofNat]
  omega

theorem goodImage_iff (i : Image) :
    goodImage i = true ↔ i.format = Config.imageFormat ∧ i.length = Config.imageLength
      ∧ i.checkFirst.toNat * 256 + i.checkSecond.toNat = (imageCheck i.format i.length i.settings).toNat := by
  rw [goodImage, Bool.and_eq_true, Bool.and_eq_true, beq_iff_eq, beq_iff_eq, beq_iff_eq, be16_eq_iff (imageCheck ..).isLt, and_assoc]

theorem goodImage_imageOf (c : Settings) : goodImage (imageOf c) = true := by
  have check : [(imageOf c).checkFirst, (imageOf c).checkSecond] = be16 (imageCheck Config.imageFormat Config.imageLength c).toNat := rfl
  exact (goodImage_iff _).mpr ⟨rfl, rfl, (be16_eq_iff (imageCheck ..).isLt).mp check⟩

theorem goodSettings_imageOf (c : Settings) : goodSettings (some (imageOf c)) = some c := by
  rw [goodSettings, goodImage_imageOf]
  rfl

theorem length_flatMap_of_forall {α : Type} {f : α → List Byte} {n : Nat} : ∀ {l : List α}, (∀ a ∈ l, (f a).length = n) → (l.flatMap f).length = l.length * n
  | [], _ => (Nat.zero_mul n).symm
  | a :: l, each => by
    rw [List.flatMap_cons, List.length_append, each a List.mem_cons_self, length_flatMap_of_forall fun b mem => each b (List.mem_cons_of_mem a mem),
      List.length_cons, Nat.succ_mul, Nat.add_comm]

theorem imageAnswer_length {i : Byte} {a : Answer} (short : a.template.length ≤ 16) : (imageAnswer i a).length = 22 := by
  simp only [imageAnswer, writeAnswer, List.length_append, List.length_cons, List.length_nil, List.length_replicate]
  omega

theorem answersBytes_length {l : List Answer} (valid : l.all Answer.valid = true) :
    (l.zipIdx.flatMap fun ai => imageAnswer (byte ai.2) ai.1).length = l.length * 22 := by
  refine (length_flatMap_of_forall fun ai mem => imageAnswer_length ?_).trans (congrArg (· * 22) List.length_zipIdx)
  have inside : ai.1 ∈ l := by
    obtain ⟨-, bound, same⟩ := List.mem_zipIdx mem
    rw [same]
    exact List.getElem_mem _
  have fits := List.all_eq_true.mp valid ai.1 inside
  rw [Answer.valid, Bool.and_eq_true, decide_eq_true_eq] at fits
  exact fits.1

theorem settingsBytes_length {c : Settings} (inRange : c.inRange = true) : (settingsBytes c).length = 871 := by
  simp only [Settings.inRange, Bool.and_eq_true, beq_iff_eq, and_assoc] at inRange
  obtain ⟨pass, -, -, answers, valid, keymap, chords, -⟩ := inRange
  have passBytes : (c.pass.flatMap writePassDef).length = 448 := (length_flatMap_of_forall (n := 14) fun _ _ => rfl).trans (congrArg (· * 14) pass)
  have answerBytes := (answersBytes_length valid).trans (congrArg (· * 22) answers)
  have keymapBytes : (c.keymap.flatMap writeKeymapEntry).length = 144 := (length_flatMap_of_forall (n := 3) fun _ _ => rfl).trans (congrArg (· * 3) keymap)
  have chordBytes : (c.chords.flatMap writeChord).length = 32 := (length_flatMap_of_forall (n := 8) fun _ _ => rfl).trans (congrArg (· * 8) chords)
  have keypad : (writeKeypad c.keypad).length = 11 := rfl
  have channels : (writeChannels c.channels).length = 20 := rfl
  have sensing : (writeSensing c.sensing).length = 20 := rfl
  have budget : (writeBudget c.budget).length = 8 := rfl
  have watchdog : (writeWatchdog c.watchdog).length = 8 := rfl
  have enables : (be16 c.enables.toNat).length = 2 := rfl
  have defaults : [byte c.defaultDown.code, byte c.defaultUp.code].length = 2 := rfl
  simp only [settingsBytes, List.length_append, passBytes, answerBytes, keymapBytes, chordBytes, keypad, channels, sensing, budget, watchdog, enables,
    defaults]

/-! ## Loading at a reset (R153, R155) -/

/-- What a power-on reset loads, and what it leaves of the store. -/
theorem powerOn_loads (rateHigh : Bool) (s : State) :
    (powerOn rateHigh s).cfg = (loadedAtReset s).getD Settings.factory
      ∧ (powerOn rateHigh s).note.pending = (if (loadedAtReset s).isSome then 0 else 0x1000)
      ∧ (powerOn rateHigh s).store = { area := areaAtReset s, shadow := loadedAtReset s, programming := none, capture := none } := by
  rw [powerOn_eq, allocate_started]
  exact ⟨rfl, rfl, rfl⟩

theorem powerOn_loads_nothing {s : State} (none_ : areaAtReset s = none) (rateHigh : Bool) :
    (powerOn rateHigh s).cfg = Settings.factory ∧ (powerOn rateHigh s).note.pending = 0x1000
      ∧ (powerOn rateHigh s).store = { area := none, shadow := none, programming := none, capture := none } := by
  obtain ⟨cfg, pending, store⟩ := powerOn_loads rateHigh s
  have empty : loadedAtReset s = none := by rw [loadedAtReset, none_]; rfl
  rw [empty] at cfg pending store
  rw [none_] at store
  exact ⟨cfg, pending, store⟩

theorem areaAtReset_of_idle {s : State} (idle : s.store.programming = none) : areaAtReset s = s.store.area := by
  rw [areaAtReset, idle]
  rfl

theorem areaAtReset_of_cutShort {s : State} (running : s.store.programming.isSome = true) : areaAtReset s = none := by
  rw [areaAtReset, if_pos running]

theorem supplyLost_store (s : State) :
    (supplyLost s).store = { s.store with area := areaAtReset s, programming := none, capture := none } := by
  simp only [supplyLost, powerOff_eq, assertReset_eq]
  rfl

theorem areaAtReset_supplyLost (s : State) : areaAtReset (supplyLost s) = areaAtReset s := by
  have store := supplyLost_store s
  rw [areaAtReset_of_idle (s := supplyLost s) (by rw [store]), store]

/-! ## The end of programming (R155) -/

theorem exec_programmingEnd {s : State} {at_ : Nat} {c : Settings} (hp : s.powered = true) (running : s.store.programming = some at_)
    (captured : s.store.capture = some c) (readBack restore : Bool) :
    exec (.programmingEnd readBack restore) s =
      .next (if readBack then settle (raise .storeDone { s with store := Store.done c })
        else settle (raise .storeFailed { s with store := s.store.failed restore })) := by
  change execProgrammingEnd readBack restore s = _
  unfold execProgrammingEnd
  rw [whenOn_of_powered hp]
  simp only [running, captured]

/-- What is left where the programming failed: the old image restored, or nothing. -/
theorem failed_cases (x : Store) (restore : Bool) :
    (x.failed restore).programming = none ∧ (x.failed restore).capture = none
      ∧ (restore = true → ∀ old, x.shadow = some old → goodSettings (x.failed restore).area = some old ∧ (x.failed restore).shadow = some old)
      ∧ (restore = false ∨ x.shadow = none → (x.failed restore).area = none ∧ (x.failed restore).shadow = none) := by
  unfold Store.failed
  cases shadow : x.shadow with
  | none => exact ⟨rfl, rfl, fun _ _ h => absurd h.symm (Option.some_ne_none _), fun _ => ⟨rfl, rfl⟩⟩
  | some old =>
    cases restore
    · exact ⟨rfl, rfl, fun h => (Bool.false_ne_true h).elim, fun _ => ⟨rfl, rfl⟩⟩
    · refine ⟨rfl, rfl, fun _ old' same => ?_, fun h => ?_⟩
      · cases same
        exact ⟨goodSettings_imageOf _, rfl⟩
      · simp at h

/-- Settles O47: the image by its check, the reset by what it loads, and the end of programming by its two outcomes. -/
theorem storeAndLoad : Obligations.StoreAndLoad := by
  refine ⟨⟨goodImage_iff, goodSettings_imageOf, fun c => settingsBytes_length⟩, fun rateHigh s => ⟨fun i idle image => ?_, fun idle none_ => ?_, fun hp idle => ?_,
    fun running => ⟨_, rfl, powerOn_loads_nothing (areaAtReset_of_cutShort running) rateHigh⟩, fun hp running => ?_⟩,
    fun s => ⟨fun h busy => ?_, fun h idle => ?_, fun restore at_ c hp running captured => ⟨⟨_, exec_programmingEnd hp running captured true restore, ?_⟩, ⟨_, exec_programmingEnd hp running captured false restore, ?_⟩⟩⟩⟩
  · refine ⟨_, rfl, ?_⟩
    obtain ⟨cfg, pending, store⟩ := powerOn_loads rateHigh s
    have area : areaAtReset s = some i := (areaAtReset_of_idle idle).trans image
    have loaded : loadedAtReset s = if goodImage i then some i.settings else none := by rw [loadedAtReset, area]; rfl
    rw [loaded] at cfg pending store
    rw [area] at store
    refine ⟨cfg.trans ?_, pending.trans ?_, store⟩ <;> cases goodImage i <;> rfl
  · exact ⟨_, rfl, powerOn_loads_nothing ((areaAtReset_of_idle idle).trans none_) rateHigh⟩
  · refine ⟨_, whenOn_of_powered hp supplyLost, _, rfl, ?_⟩
    exact (congrArg Store.area (powerOn_loads rateHigh _).2.2).trans ((areaAtReset_supplyLost s).trans (areaAtReset_of_idle idle))
  · refine ⟨_, whenOn_of_powered hp supplyLost, _, rfl, ?_⟩
    have none_ : areaAtReset (supplyLost s) = none := (areaAtReset_supplyLost s).trans (areaAtReset_of_cutShort running)
    obtain ⟨cfg, pending, left⟩ := powerOn_loads_nothing none_ rateHigh
    exact ⟨cfg, pending, congrArg Store.programming left⟩
  · refine (whenOn_commandArrives h fun _ => cmdStoreSettings []).trans (congrArg _ ?_)
    have busy' : (taken s).store.programming.isSome = true := busy
    rw [cmdStoreSettings, if_neg (not_not_intro List.length_nil), if_pos busy']
    exact refuse_taken 0x5F .busy s
  · refine (whenOn_commandArrives h fun _ => cmdStoreSettings []).trans (congrArg _ ?_)
    have idle' : ¬ (taken s).store.programming.isSome = true := by
      change ¬ s.store.programming.isSome = true
      rw [idle]
      exact Bool.false_ne_true
    rw [cmdStoreSettings, if_neg (not_not_intro List.length_nil), if_neg idle']
    exact reply_taken 0x5F .accepted [] { s with store.programming := some s.clock.now, store.capture := some s.cfg }
  · have delivered := settle_deliveries (raise .storeDone { s with store := Store.done c })
    have store : (settle (raise .storeDone { s with store := Store.done c })).store = Store.done c :=
      (eq_of_delivered State.store (fun _ _ => rfl) delivered :)
    rw [if_pos rfl]
    beta_reduce
    rw [store]
    exact ⟨goodSettings_imageOf c, delivered⟩
  · have delivered := settle_deliveries (raise .storeFailed { s with store := s.store.failed restore })
    have store : (settle (raise .storeFailed { s with store := s.store.failed restore })).store = s.store.failed restore :=
      (eq_of_delivered State.store (fun _ _ => rfl) delivered :)
    obtain ⟨programming, capture, restored, erased⟩ := failed_cases s.store restore
    have shape : s.store.failed restore = { area := (s.store.failed restore).area, shadow := (s.store.failed restore).shadow, programming := none, capture := none } := by
      rw [← programming, ← capture]
    rw [if_neg Bool.false_ne_true]
    beta_reduce
    rw [store, ← shape]
    exact ⟨restored, erased, delivered⟩

end Sys2Proof.Machine
end

section
/-! The key event queue: admission, the records that are queued, and their delivery; and a key's moments as rows of their own. -/

namespace Sys2Proof.Machine

/-! ## Admission (R138) -/

theorem isKeyChange_iff (e : KeyEvent) : e.isKeyChange = true ↔ e.kind = .press ∨ e.kind = .release ∨ e.kind = .repeated := by
  simp only [KeyEvent.isKeyChange, Bool.or_eq_true, beq_iff_eq, or_assoc]

theorem sameRepeat_iff (e : KeyEvent) (q : List KeyEvent) :
    q.any (fun x => x.kind == .repeated && x.position == e.position) = true ↔ ∃ x ∈ q, x.kind = .repeated ∧ x.position = e.position := by
  simp only [List.any_eq_true, Bool.and_eq_true, beq_iff_eq]

/-- Admission by its cases, in their order. -/
theorem admitEvent_cases (delivering : Bool) (e : KeyEvent) (s : State) :
    admitEvent delivering e s =
      if s.ctl.phase ≠ .run then s
      else if e.isKeyChange = true ∧ (delivering = false ∨ s.keys.loss = true) then s
      else if e.kind = .repeated ∧ (12 ≤ s.keys.queue.length ∨ ∃ x ∈ s.keys.queue, x.kind = .repeated ∧ x.position = e.position) then s
      else if 16 ≤ s.keys.queue.length then { s with keys.loss := true, note.pending := s.note.pending ||| 64#13 }
      else { s with keys.queue := s.keys.queue ++ [e] } := by
  have merge {P Q : Prop} [Decidable P] [Decidable Q] (x y : State) : (if P then x else if Q then x else y) = if P ∨ Q then x else y := by
    by_cases p : P
    · rw [if_pos p, if_pos (.inl p)]
    · rw [if_neg p, if_congr (or_iff_right p).symm rfl rfl]
  unfold admitEvent
  rw [if_congr bne_iff_ne rfl rfl]
  refine if_congr Iff.rfl rfl ?_
  rw [merge]
  have dropped : (e.isKeyChange && !delivering) = true ∨ (s.keys.loss && e.isKeyChange) = true ↔ e.isKeyChange = true ∧ (delivering = false ∨ s.keys.loss = true) := by
    simp only [Bool.and_eq_true, Bool.not_eq_true']
    tauto
  refine if_congr dropped rfl ?_
  rw [merge]
  refine if_congr ?_ rfl rfl
  simp only [Bool.and_eq_true, beq_iff_eq, decide_eq_true_eq, sameRepeat_iff, and_or_left]

/-- A change that admission neither reads nor makes may be exchanged with it. -/
theorem admitEvent_comm {f : State → State} {s : State} (phase : (f s).ctl.phase = s.ctl.phase) (queue : (f s).keys.queue = s.keys.queue)
    (loss : (f s).keys.loss = s.keys.loss)
    (lost : { f s with keys.loss := true, note.pending := (f s).note.pending ||| 64#13 } = f { s with keys.loss := true, note.pending := s.note.pending ||| 64#13 })
    (joined : ∀ q, { f s with keys.queue := q } = f { s with keys.queue := q }) (delivering : Bool) (e : KeyEvent) :
    admitEvent delivering e (f s) = f (admitEvent delivering e s) := by
  rw [admitEvent_cases, admitEvent_cases, phase, queue, loss, lost, joined]
  simp only [apply_ite f]

/-- What admission can change. -/
theorem admitEvent_frame (delivering : Bool) (e : KeyEvent) (s : State) :
    let t := admitEvent delivering e s
    t = { s with keys.queue := t.keys.queue, keys.loss := t.keys.loss, note.pending := t.note.pending } := by
  intro t
  have whole : t = _ := admitEvent_cases delivering e s
  rw [whole]
  split_ifs <;> rfl

/-- Events offered one after the other, each with its delivering flag. -/
def admitAll (l : List (Bool × KeyEvent)) (s : State) : State := l.foldl (fun v x => admitEvent x.1 x.2 v) s

theorem admitAll_append (l m : List (Bool × KeyEvent)) (s : State) : admitAll (l ++ m) s = admitAll m (admitAll l s) := List.foldl_append

theorem admitAll_frame : ∀ (l : List (Bool × KeyEvent)) (s : State),
    let t := admitAll l s
    t = { s with keys.queue := t.keys.queue, keys.loss := t.keys.loss, note.pending := t.note.pending }
  | [], _ => rfl
  | x :: l, s => by
    intro t
    have rest : t = _ := admitAll_frame l (admitEvent x.1 x.2 s)
    exact rest.trans (congrArg (fun v : State => { v with keys.queue := t.keys.queue, keys.loss := t.keys.loss, note.pending := t.note.pending })
      (admitEvent_frame x.1 x.2 s))

/-- A change that admission neither reads nor makes, in any state, may be exchanged with any number of admissions. -/
theorem admitAll_comm {f : State → State} (swap : ∀ (d : Bool) (e : KeyEvent) (s : State), admitEvent d e (f s) = f (admitEvent d e s)) :
    ∀ (l : List (Bool × KeyEvent)) (s : State), admitAll l (f s) = f (admitAll l s)
  | [], _ => rfl
  | x :: l, s => (congrArg (admitAll l) (swap x.1 x.2 s)).trans (admitAll_comm swap l _)

/-! ## Records and their delivery (R137, R139, R140, R162) -/

theorem keyPayload_eq (e : KeyEvent) :
    let bit (n : Nat) (b : Bool) : Byte := if b then BitVec.ofNat 8 (2 ^ n) else 0
    keyPayload e =
      [byte e.kind.code,
       (if e.kind = .chord then byte (e.chord.getD 0) else if e.kind = .snapshot then 0xFF else byte (e.position.getD 0)),
       e.code, bit 0 e.cold + bit 1 e.stuck + bit 2 e.resync + bit 3 e.truncated] ++ be32 e.stamp.toNat ++ e.codes := by
  obtain ⟨kind, position, code, chord, cold, stuck, resync, truncated, stamp, codes⟩ := e
  have flags : ((if cold then 1 else 0) ||| (if stuck then 2 else 0) ||| (if resync then 4 else 0) ||| (if truncated then 8 else 0) : Byte) =
      (if cold then BitVec.ofNat 8 (2 ^ 0) else 0) + (if stuck then BitVec.ofNat 8 (2 ^ 1) else 0) + (if resync then BitVec.ofNat 8 (2 ^ 2) else 0)
        + (if truncated then BitVec.ofNat 8 (2 ^ 3) else 0) := by
    revert cold stuck resync truncated
    decide
  simp only [keyPayload, flags]
  cases kind <;> rfl

theorem keyDue_iff {e : KeyEvent} {rest : List KeyEvent} {s : State} (head : s.keys.queue = e :: rest) :
    keyDue s = true ↔ s.ctl.phase = .run ∧ s.link.up.countP (fun f => decide (f.rank = .key)) < 4 ∧ s.link.up.length ≤ 10 := by
  have count : rankCount .key s = s.link.up.countP fun f => decide (f.rank = .key) := rfl
  simp only [keyDue, head, List.isEmpty_cons, Bool.not_false, Bool.and_true, Bool.and_eq_true, beq_iff_eq, decide_eq_true_eq, count, and_assoc]

theorem snapshotEvent_of_keys {s t : State} (keys : t.keys.keys = s.keys.keys) (cfg : t.cfg = s.cfg) (cold : t.keys.coldPress = s.keys.coldPress)
    (clock : t.clock = s.clock) (resync : Bool) : snapshotEvent resync t = snapshotEvent resync s := by
  have codes : downCodes t = downCodes s := by
    unfold downCodes
    rw [keys, cfg]
  simp only [snapshotEvent, codes, cold, clock]

/-- A record delivered, where it is due. -/
theorem deliverKey_of_due {e : KeyEvent} {rest : List KeyEvent} {s : State} (head : s.keys.queue = e :: rest) (due : keyDue s = true) :
    deliverKey s =
      { s with
        link.up := s.link.up ++ [upFrame .key 0xE1 (keyPayload e)]
        link.c.stallFrom := stallFromWhenWaiting s
        keys.queue := if s.keys.loss = true ∧ rest.length ≤ 8 then rest ++ [snapshotEvent true s] else rest
        keys.loss := if s.keys.loss = true ∧ rest.length ≤ 8 then false else s.keys.loss } := by
  simp only [deliverKey, head, due, if_true, pushUp_eq, resyncTest, Bool.and_eq_true, decide_eq_true_eq]
  split
  · rw [snapshotEvent_of_keys (s := s) rfl rfl rfl rfl]
    rfl
  · rfl

theorem deliverKey_of_not_due {s : State} (not : ¬ keyDue s = true) : deliverKey s = s := by
  unfold deliverKey
  split
  · rfl
  · rw [if_neg not]

theorem exec_keyDelivery {s : State} (hp : s.powered = true) : exec .keyDelivery s = .next (deliverKey s) := whenOn_of_powered hp deliverKey

theorem deliverKey_powered (s : State) : (deliverKey s).powered = s.powered := eq_of_delivered State.powered (fun _ _ => rfl) (deliverKey_deliveries s)

theorem sendNotice_powered (s : State) : (sendNotice s).powered = s.powered := eq_of_delivered State.powered (fun _ _ => rfl) (sendNotice_deliveries s)

/-- Settles O52: admission by its chain, the records by their fields, and a delivery by its two cases. -/
theorem keyEventQueue : Obligations.KeyEventQueue := by
  refine ⟨fun delivering e s => ?_, ⟨fun resync s => ?_, keyPayload_eq, fun s hp => ?_⟩, fun e rest s hp head => ?_⟩
  · intro change q
    rw [admitEvent_cases]
    simp only [isKeyChange_iff]
    rfl
  · rw [snapshotEvent, downCodes_eq]
  · have on0 : (sendNotice s).powered = true := (sendNotice_powered s).trans hp
    have on1 : (deliverKey (sendNotice s)).powered = true := (deliverKey_powered _).trans on0
    have on2 : (deliverKey (deliverKey (sendNotice s))).powered = true := (deliverKey_powered _).trans on1
    have on3 : (deliverKey (deliverKey (deliverKey (sendNotice s)))).powered = true := (deliverKey_powered _).trans on2
    exact ⟨_, whenOn_of_powered hp sendNotice, _, exec_keyDelivery on0, _, exec_keyDelivery on1, _, exec_keyDelivery on2, _, exec_keyDelivery on3, rfl⟩
  · intro due resync
    rw [exec_keyDelivery hp]
    refine ⟨fun h => ?_, fun h => ?_⟩
    · rw [deliverKey_of_due head ((keyDue_iff head).mpr h)]
    · rw [deliverKey_of_not_due (mt (keyDue_iff head).mp h)]

/-! ## A key moved by a row of its own (R127, R128, R130, R131) -/

theorem keymapAt_of_some {l : List KeymapEntry} {p : Nat} {ent : KeymapEntry} (at_ : l[p]? = some ent) : keymapAt l p = ent := by
  rw [keymapAt, List.getD_eq_getElem?_getD, at_]
  rfl

theorem coldNow_eq (s : State) :
    coldNow s = decide (s.sens.effDisplay.map (fun T => s.cfg.keypad.kCold * (max 0 ((s.cfg.keypad.tCold - T).tdiv 4)).toNat) ≠ some 0) := by
  rw [coldNow, isCold, bne, decide_not, beq_eq_decide]
  rfl

/-- The event of a key whose two sides have one cold flag. -/
theorem offerMade_alike (p : Nat) (code : Byte) (made : Option Made) (cold : Bool) (s : State) :
    offerMade p code made cold cold s =
      made.elim s fun m => admitEvent m.delivering
        { kind := m.kind, position := some p, code := code, chord := none, cold := cold, stuck := m.stuck, resync := false, truncated := false
          stamp := s.clock.cabinet, codes := [] } s := by
  cases made with
  | none => rfl
  | some m => simp only [offerMade, keyEvent, ite_self, Option.elim]

/-- What a row that moves a key leaves: the key moved, its event offered, and the deliveries. -/
def keyMoved (p : Nat) (k' : Key) (e : Option (Bool × KeyKind × Bool)) (code : Byte) (s : State) : State :=
  let u := { s with keys.keys := s.keys.keys.set p k' }
  settle (e.elim u fun x => admitEvent x.1
    { kind := x.2.1, position := some p, code := code, chord := none, cold := coldNow s, stuck := x.2.2, resync := false, truncated := false
      stamp := s.clock.cabinet, codes := [] } u)

theorem moveKey_of_ready {p : Nat} {k : Key} {ent : KeymapEntry} {s : State} (key : s.keys.keys[p]? = some k) (at_ : s.cfg.keymap[p]? = some ent)
    {ready : Key → Bool} (due : ready k = true) (act : Key → Key × Option Made) :
    moveKey p ready act s = keyMoved p (act k).1 ((act k).2.map fun m => (m.delivering, m.kind, m.stuck)) ent.code s := by
  simp only [moveKey, key, due, if_true, offerMade_alike, keymapAt_of_some at_]
  cases (act k).2 <;> rfl

theorem reachesStuck_of {kp : KeypadParams} {held : Nat} (on : kp.tStuck ≠ 0) (long : kp.tStuck * 1000 ≤ held) : reachesStuck kp held = true := by
  rw [reachesStuck, decide_eq_true on, decide_eq_true long]
  rfl

theorem isDown_of {k : Key} (down : k.state = .down ∨ k.state = .releasePending) : k.isDown = true := by
  rcases down with h | h <;> simp [Key.isDown, h]

theorem exec_press {s : State} (hp : s.powered = true) (p : Nat) :
    exec (.press p) s = .next (moveKey p
      (fun k => k.state == .pressPending && !k.ambiguous && (keymapAt s.cfg.keymap p).code != 0 && decide (pressEff s ≤ k.pending + 5))
      (pressKey (keymapAt s.cfg.keymap p)) s) := whenOn_of_powered hp _

theorem exec_release {s : State} (hp : s.powered = true) (p : Nat) :
    exec (.release p) s = .next (moveKey p (fun k => k.state == .releasePending && !k.ambiguous && decide (relEff s ≤ k.pending + 5)) releaseKey s) :=
  whenOn_of_powered hp _

theorem exec_stuck {s : State} (hp : s.powered = true) (p : Nat) :
    exec (.stuck p) s = .next (moveKey p (fun k => k.isDown && !k.ambiguous && reachesStuck s.cfg.keypad (runHeld k.held))
      (fun k => stickKey { k with held := runHeld k.held }) s) := whenOn_of_powered hp _

theorem exec_stuckClear {s : State} (hp : s.powered = true) (p : Nat) :
    exec (.stuckClear p) s = .next (moveKey p (fun k => k.state == .stuck && !k.ambiguous && decide (relEff s ≤ k.pending + 5))
      (fun k => (restKey k, none)) s) := whenOn_of_powered hp _

theorem exec_keyRepeat {s : State} (hp : s.powered = true) (p : Nat) :
    exec (.keyRepeat p) s = .next (moveKey p
      (fun k => k.state == .down && k.repeating && !k.ambiguous && decide (repeatDue s.cfg.keypad k ≤ k.repeatTime + 5))
      (fun k => repeatKey { k with held := runHeld k.held }) s) := whenOn_of_powered hp _

/-- Settles O50: every row is `moveKey` where its key is ready. -/
theorem keyMoments : Obligations.KeyMoments := by
  intro p k ent s hp key at_ clear ext moved
  have row {c : Instr} {ready : Key → Bool} {act : Key → Key × Option Made} {k' : Key} {e : Option (Bool × KeyKind × Bool)}
      (same : exec c s = .next (moveKey p ready act s)) (due : ready k = true) (left : (act k).1 = k')
      (made : ((act k).2.map fun m => (m.delivering, m.kind, m.stuck)) = e) : Nexts (exec c s) (moved k' e) := by
    refine ⟨_, same, ?_⟩
    rw [moveKey_of_ready key at_ due, left, made]
    simp only [moved, keyMoved, coldNow_eq]
    rfl
  have entry := keymapAt_of_some at_
  refine ⟨fun state used long => ?_, fun state long => ?_, fun down on long => ?_, fun state long => ?_, fun state repeats long => ?_⟩
  · refine row (exec_press hp p) ?_ (by rw [entry]; rfl) (by rw [entry]; rfl)
    have code : (ent.code != 0) = true := bne_iff_ne.mpr used
    simp only [state, clear, entry, code, decide_eq_true long, beq_self_eq_true, Bool.not_false, Bool.and_true]
  · exact row (exec_release hp p) (by simp [state, clear, long]) rfl rfl
  · exact row (exec_stuck hp p) (by simp [isDown_of down, clear, runHeld, reachesStuck_of on long]) rfl rfl
  · exact row (exec_stuckClear hp p) (by simp [state, clear, long]) rfl rfl
  · exact row (exec_keyRepeat hp p) (by simp [state, repeats, clear, repeatDue, long]) rfl rfl

end Sys2Proof.Machine
end

section
/-! Chords, and the settings of the keypad. -/

namespace Sys2Proof.Machine

/-! ## A chord at a pass (R135, R136) -/

theorem downAt_eq (keys : List Key) (p : Nat) : downAt keys p = (keys[p]?).any Key.isDown := by
  unfold downAt
  cases keys[p]? <;> rfl

theorem upAt_eq (keys : List Key) (p : Nat) : upAt keys p = (keys[p]?).any fun k => decide (k.state = .up) := by
  unfold upAt
  cases keys[p]? with
  | none => rfl
  | some k => exact beq_eq_decide (a := k.state) (b := .up)

theorem isHeld_iff {keys : List Key} {d : ChordDef} (inside : ∀ p ∈ d.members, p < keys.length) :
    isHeld keys d = true ↔ ∀ p < keys.length, (p ∈ d.members ↔ (keys[p]?).any Key.isDown = true) := by
  simp only [isHeld, downAt_eq, Bool.and_eq_true, List.all_eq_true, List.mem_range, Bool.or_eq_true, List.contains_iff_mem, Bool.not_eq_true']
  constructor
  · rintro ⟨down, rest⟩ p bound
    refine ⟨down p, fun isDown => (rest p bound).resolve_right ?_⟩
    rw [isDown]
    decide
  · intro exactly
    refine ⟨fun p member => (exactly p (inside p member)).mp member, fun p bound => ?_⟩
    by_cases member : p ∈ d.members
    · exact .inl member
    · exact .inr (Bool.eq_false_iff.mpr (mt (exactly p bound).mpr member))

theorem stepChord_eq (d : ChordDef) (held inSet rested : Bool) (c : ChordRun) :
    let armed : ChordRun := { state := .armed, elapsed := 0 }
    stepChord d held inSet rested c =
      (if d.count = 0 then (c, false)
       else if c.state = .spent then (if rested then armed else c, false)
       else if held = false ∨ inSet = false then (if c.state = .armed then c else armed, false)
       else if c.state = .armed then ({ state := .holding, elapsed := 5 }, false)
       else if c.elapsed + 5 < d.holdMs then ({ state := .holding, elapsed := c.elapsed + 5 }, false)
       else ({ state := .spent, elapsed := d.holdMs }, true)) := by
  intro armed
  have released : (held = false ∨ inSet = false) ↔ ¬ (held && inSet) = true := by cases held <;> cases inSet <;> decide
  unfold stepChord
  refine if_congr Iff.rfl rfl ?_
  rw [if_congr released rfl rfl]
  obtain ⟨state, elapsed⟩ := c
  cases state
  case armed => cases held && inSet <;> rfl
  case holding =>
    cases held && inSet
    · rfl
    · have over_ : d.holdMs ≤ elapsed + 5 ↔ ¬ elapsed + 5 < d.holdMs := Nat.not_lt.symm
      simp only [if_true, over_, ite_not, reduceCtorEq, not_true_eq_false, if_false]
  case spent => cases rested <;> rfl

/-! ## CHORD_FIRE (R136) -/

theorem chordAt_of_some {s : State} {i : Nat} {d : ChordDef} (chord : s.cfg.chords[i]? = some d) : chordAt s i = d := by
  rw [chordAt, List.getD_eq_getElem?_getD, chord]
  rfl

theorem offerChord_eq (i : Nat) (s : State) :
    offerChord i s = admitEvent false
      { kind := .chord, position := none, code := 0, chord := some i
        cold := decide (s.sens.effDisplay.map (fun T => s.cfg.keypad.kCold * (max 0 ((s.cfg.keypad.tCold - T).tdiv 4)).toNat) ≠ some 0), stuck := false
        resync := false, truncated := false, stamp := s.clock.cabinet, codes := [] } s := by
  rw [← coldNow_eq]
  rfl

/-- A chord one pass short of its firing, fired by a row of its own. -/
theorem exec_chordFire {i : Nat} {d : ChordDef} {c : ChordRun} {s : State} (hp : s.powered = true) (chord : s.cfg.chords[i]? = some d)
    (run : s.keys.chords[i]? = some c) (ready : chordReady i c s = true) :
    exec (.chordFire i) s = .next (settle (handFirings [d.action]
      (offerChord i { s with keys.chords := s.keys.chords.set i { state := .spent, elapsed := d.holdMs } }))) := by
  have row := whenOn_of_powered hp fun s =>
    match s.keys.chords[i]? with
    | none => s
    | some c =>
      if chordReady i c s then
        settle
          (handFirings [(chordAt s i).action]
            (offerChord i
              { s with keys.chords := s.keys.chords.set i { state := .spent, elapsed := (chordAt s i).holdMs } }))
      else s
  simp only [run, ready, if_true, chordAt_of_some chord] at row
  exact row

/-! ## SET_CHORD (R134) -/

/-- The action a code names, for the codes that name one. -/
def chordActionOfByte (act : Byte) : ChordAction :=
  if act = 0 then .requestRestart else if act = 1 then .skipWarmup else if act = 2 then .clearLockout else .report

theorem ChordAction.ofCode_eq (act : Byte) : ChordAction.ofCode act.toNat = if 3 < act.toNat then none else some (chordActionOfByte act) := by
  revert act
  decide

theorem chordActionOfByte_code {act : Byte} (known : act.toNat ≤ 3) : byte (chordActionOfByte act).code = act := by
  revert act
  decide

/-- The bytes of SET_CHORD. -/
structure ChordBytes where
  (i n a b c h0 h1 act ph : Byte)

def ChordBytes.payload (x : ChordBytes) : List Byte := [x.i, x.n, x.a, x.b, x.c, x.h0, x.h1, x.act, x.ph]

theorem ChordBytes.payload_length (x : ChordBytes) : x.payload.length = 9 := rfl

/-- The members in use. -/
def ChordBytes.members (x : ChordBytes) : List Nat := ([x.a, x.b, x.c].take x.n.toNat).map BitVec.toNat

/-- The definition that the bytes carry, its hold time as it is asked for. -/
def ChordBytes.asked (x : ChordBytes) : ChordDef :=
  { count := x.n.toNat, m0 := x.a, m1 := x.b, m2 := x.c, holdMs := x.h0.toNat * 256 + x.h1.toNat, action := chordActionOfByte x.act, phases := x.ph }

theorem judgeChord_eq (x : ChordBytes) :
    judgeChord x.payload =
      if 3 < x.act.toNat ∨ ¬ (x.n.toNat = 0 ∨ x.n.toNat = 2 ∨ x.n.toNat = 3) ∨ ¬ x.members.Nodup ∨ (∃ m ∈ x.members, 47 < m) then none
      else some x.asked := by
  have act : u8At x.payload 7 = x.act.toNat := rfl
  have read : readChord x.payload (chordActionOfByte x.act) = x.asked := rfl
  have members : x.asked.members = x.members := rfl
  have count : x.asked.count = x.n.toNat := rfl
  have inside : x.members.all (fun m => decide (m ≤ 47)) = true ↔ ¬ ∃ m ∈ x.members, 47 < m := by
    simp only [List.all_eq_true, decide_eq_true_eq, not_exists, not_and, not_lt]
  rw [judgeChord, act, ChordAction.ofCode_eq]
  by_cases unknown : 3 < x.act.toNat
  · rw [if_pos unknown, if_pos (.inl unknown)]
  · rw [if_neg unknown]
    simp only [read, members, count, inside]
    by_cases good : (x.n.toNat = 0 ∨ x.n.toNat = 2 ∨ x.n.toNat = 3) ∧ (¬ ∃ m ∈ x.members, 47 < m) ∧ x.members.Nodup
    · obtain ⟨number, low, nodup⟩ := good
      rw [if_pos ⟨number, low, nodup⟩,
        if_neg fun bad => bad.elim unknown fun bad => bad.elim (absurd number) fun bad => bad.elim (absurd nodup) low]
    · rw [if_neg good, if_pos (by tauto)]

theorem cmdSetChord_judged {x : ChordBytes} (inTable : x.i.toNat ≤ 3) (known : x.act.toNat ≤ 3) (judged : judgeChord x.payload = some x.asked) (s : State) :
    let hold := x.h0.toNat * 256 + x.h1.toNat
    let hold' := max 500 (min 10000 hold)
    cmdSetChord x.payload (taken s) =
      replied 0x5E ([if hold' = hold then 0x00 else 0x01, x.i, x.n, x.a, x.b, x.c] ++ be16 hold' ++ [x.act, x.ph])
        { s with
          cfg.chords := s.cfg.chords.set x.i.toNat { x.asked with holdMs := hold' }
          keys.chords := s.keys.chords.set x.i.toNat
            { state := if x.members.all (fun m => (s.keys.keys[m]?).any fun k => decide (k.state = .up)) then .armed else .spent, elapsed := 0 } } := by
  intro hold hold'
  have index : ¬ 3 < u8At x.payload 0 := Nat.not_lt.mpr inTable
  have clamped : clampChord x.asked = { x.asked with holdMs := hold' } := rfl
  have same : clampChord x.asked = x.asked ↔ hold' = hold := by
    rw [clamped]
    exact ⟨congrArg ChordDef.holdMs, fun h => by rw [h]; rfl⟩
  have rested : upAt s.keys.keys = fun m => (s.keys.keys[m]?).any fun k => decide (k.state = .up) := funext (upAt_eq s.keys.keys)
  have count : byte x.n.toNat = x.n := BitVec.ofNat_toNat .. |>.trans (BitVec.setWidth_eq _)
  have written : writeChord (clampChord x.asked) = [x.n, x.a, x.b, x.c] ++ be16 hold' ++ [x.act, x.ph] := by
    have action : byte (clampChord x.asked).action.code = x.act := chordActionOfByte_code known
    rw [writeChord, action]
    exact congrArg (fun n => [n, x.a, x.b, x.c] ++ be16 hold' ++ [x.act, x.ph]) count
  rw [cmdSetChord, if_neg (not_not_intro x.payload_length), if_neg index, judged]
  simp only [written, ← rested]
  rw [← clampedIf_bne_code _ _ _ same]
  exact reply_taken 0x5E _ _ { s with
    cfg.chords := s.cfg.chords.set x.i.toNat (clampChord x.asked)
    keys.chords := s.keys.chords.set x.i.toNat { state := if x.members.all (upAt s.keys.keys) then .armed else .spent, elapsed := 0 } }

/-- Settles O51: the held test, a chord's step, its firing, and SET_CHORD by its chain of checks. -/
theorem chords : Obligations.Chords := by
  refine ⟨fun keys d inside => isHeld_iff inside, stepChord_eq, fun i d c s hp chord run state used long held inSet => ?_,
    fun s => ⟨rfl, fun a l => rfl⟩, fun i n a b c h0 h1 act ph s h => ?_⟩
  · have ready : chordReady i c s = true := by
      have count : (d.count != 0) = true := bne_iff_ne.mpr used
      simp only [chordReady, chordAt_of_some chord, state, count, held, inSet, decide_eq_true long, beq_self_eq_true, Bool.and_self]
    refine ⟨_, exec_chordFire hp chord run ready, ?_⟩
    rw [offerChord_eq]
  · let x : ChordBytes := { i, n, a, b, c, h0, h1, act, ph }
    intro out members hold hold'
    have row {t : State} (same : cmdSetChord x.payload (taken s) = t) : out = .next t := same ▸ whenOn_commandArrives h fun _ => cmdSetChord x.payload
    refine ite_of (fun large => row ?_) fun small => ?_
    · have index : 3 < u8At x.payload 0 := large
      rw [cmdSetChord, if_neg (not_not_intro x.payload_length), if_pos index]
      exact refuse_taken 0x5E .badIndex s
    have inTable : i.toNat ≤ 3 := Nat.not_lt.mp small
    have judged := judgeChord_eq x
    refine ite_of (fun bad => row ?_) fun good => ?_
    · have index : ¬ 3 < u8At x.payload 0 := small
      rw [cmdSetChord, if_neg (not_not_intro x.payload_length), if_neg index, judged.trans (if_pos bad)]
      exact refuse_taken 0x5E .badValue s
    · exact row (cmdSetChord_judged inTable (Nat.not_lt.mp (mt .inl good)) (judged.trans (if_neg good)) s)

end Sys2Proof.Machine
end

section
/-! The plain settings, and SET_KEYMAP: what it makes of the keymap, of the keys and of the events, entry by entry. -/

namespace Sys2Proof.Machine

/-! ## Words in a payload -/

theorem be32_of_bytes (a b c d : Byte) : be32 (a.toNat * 16777216 + b.toNat * 65536 + c.toNat * 256 + d.toNat) = [a, b, c, d] := by
  have ha := a.isLt
  have hb := b.isLt
  have hc := c.isLt
  have hd := d.isLt
  simp only [be32, List.cons.injEq, and_true, ← BitVec.toNat_inj, byte, BitVec.toNat_ofNat]
  omega

theorem cmdSetTime_eq (a b c d : Byte) (s : State) :
    cmdSetTime [a, b, c, d] (taken s) =
      replied 0x43 [0x00, a, b, c, d]
        { s with clock.cabinet := BitVec.ofNat 32 (a.toNat * 16777216 + b.toNat * 65536 + c.toNat * 256 + d.toNat) } := by
  have word : u32At [a, b, c, d] 0 = a.toNat * 16777216 + b.toNat * 65536 + c.toNat * 256 + d.toNat := by
    simp only [u32At, u16At, List.getD_cons_succ, List.getD_cons_zero]
    omega
  have length : [a, b, c, d].length = 4 := rfl
  rw [cmdSetTime, if_neg (not_not_intro length), word, be32_of_bytes]
  exact reply_taken 0x43 .ok _ { s with clock.cabinet := BitVec.ofNat 32 (a.toNat * 16777216 + b.toNat * 65536 + c.toNat * 256 + d.toNat) }

/-! ## SET_DEFAULT_ACTIONS and SET_KEYPAD (R95, R141) -/

theorem DefaultAction.ofCode_eq (b : Byte) : DefaultAction.ofCode b.toNat = if 1 < b.toNat then none else some (if b = 0 then .forward else .drop) := by
  revert b
  decide

theorem defaultAction_code {b : Byte} (known : b.toNat ≤ 1) : byte (if b = 0 then DefaultAction.forward else .drop).code = b := by
  revert b
  decide

theorem cmdSetDefaultActions_unknown {d u : Byte} (bad : 1 < d.toNat ∨ 1 < u.toNat) (s : State) :
    cmdSetDefaultActions [d, u] (taken s) = replied 0x4C [0x13] s := by
  have first : u8At [d, u] 0 = d.toNat := rfl
  have second : u8At [d, u] 1 = u.toNat := rfl
  have length : [d, u].length = 2 := rfl
  rw [cmdSetDefaultActions, if_neg (not_not_intro length), first, second, DefaultAction.ofCode_eq, DefaultAction.ofCode_eq]
  rcases bad with bad | bad
  · rw [if_pos bad]
    exact refuse_taken 0x4C .badValue s
  · rw [if_pos bad]
    split
    · exact absurd ‹none = some _› (Option.some_ne_none _).symm
    · exact refuse_taken 0x4C .badValue s

theorem cmdSetDefaultActions_known {d u : Byte} (down : d.toNat ≤ 1) (up : u.toNat ≤ 1) (s : State) :
    cmdSetDefaultActions [d, u] (taken s) = replied 0x4C [0x00, d, u]
      { s with cfg.defaultDown := if d = 0 then .forward else .drop, cfg.defaultUp := if u = 0 then .forward else .drop } := by
  have first : u8At [d, u] 0 = d.toNat := rfl
  have second : u8At [d, u] 1 = u.toNat := rfl
  have length : [d, u].length = 2 := rfl
  rw [cmdSetDefaultActions, if_neg (not_not_intro length), first, second, DefaultAction.ofCode_eq, DefaultAction.ofCode_eq, if_neg (Nat.not_lt.mpr down),
    if_neg (Nat.not_lt.mpr up)]
  simp only [defaultAction_code down, defaultAction_code up]
  exact reply_taken 0x4C .ok _ { s with cfg.defaultDown := if d = 0 then .forward else .drop, cfg.defaultUp := if u = 0 then .forward else .drop }

theorem clampKeypad_eq (k : KeypadParams) :
    clampKeypad k =
      { tPress := max 5 (min 100 k.tPress), tRel := max 5 (min 100 k.tRel), tCold := max (-200) (min 100 k.tCold), kCold := min 10 k.kCold
        tStuck := if k.tStuck = 0 then 0 else max 5 (min 600 k.tStuck)
        repeatDelay := max 100 (min 2000 k.repeatDelay), repeatPeriod := max 20 (min 1000 k.repeatPeriod) } := by
  simp only [clampKeypad, clampN, clampI, clampStuck, Nat.zero_max]

theorem cmdSetKeypad_eq {p : List Byte} (length : p.length = 11) (s : State) :
    cmdSetKeypad p (taken s) =
      replied 0x55 ((if clampKeypad (readKeypad p) = readKeypad p then 0x00 else 0x01) :: writeKeypad (clampKeypad (readKeypad p)))
        { s with cfg.keypad := clampKeypad (readKeypad p) } := by
  rw [cmdSetKeypad, if_neg (not_not_intro length), ← clampedIf_bne_code _ _ _ Iff.rfl]
  exact reply_taken 0x55 _ _ { s with cfg.keypad := clampKeypad (readKeypad p) }

/-! ## SET_KEYMAP (R133) -/

/-- `s` with another keymap and other key records. -/
def withKeymap (keymap : List KeymapEntry) (keys : List Key) (s : State) : State := { s with cfg.keymap := keymap, keys.keys := keys }

theorem admitAll_withKeymap (keymap : List KeymapEntry) (keys : List Key) (l : List (Bool × KeyEvent)) (s : State) :
    admitAll l (withKeymap keymap keys s) = withKeymap keymap keys (admitAll l s) :=
  admitAll_comm (f := withKeymap keymap keys) (fun d e _ => admitEvent_comm rfl rfl rfl rfl (fun _ => rfl) d e) l s

theorem admitAll_taken (l : List (Bool × KeyEvent)) (s : State) : admitAll l (taken s) = taken (admitAll l s) :=
  admitAll_comm (f := taken) (fun d e _ => admitEvent_comm rfl rfl rfl rfl (fun _ => rfl) d e) l s

/-- The RELEASE of a key that was down at a position whose code becomes 0. -/
def releasedAt (old : KeymapEntry) (code : Byte) (p : Nat) (k : Key) (s : State) : Option (Bool × KeyEvent) :=
  if old.code ≠ 0 ∧ code = 0 ∧ (k.state = .down ∨ k.state = .releasePending) then
    some (k.delivering,
      { kind := .release, position := some p, code := old.code, chord := none, cold := s.keys.coldRel, stuck := false
        resync := false, truncated := false, stamp := s.clock.cabinet, codes := [] })
  else none

/-- The keys once a position has been given a new entry. -/
def keysDropped (p : Nat) (old ent : KeymapEntry) (keys : List Key) : List Key :=
  if ent.code = 0 ∧ old.code ≠ 0 then keys.modify p fun k => (dropKey k).1 else keys

theorem offerMade_dropKey (p : Nat) {old : KeymapEntry} (used : old.code ≠ 0) (k : Key) (coldPress : Bool) (s : State) :
    offerMade p old.code (dropKey k).2 coldPress s.keys.coldRel s = admitAll (releasedAt old 0 p k s).toList s := by
  unfold dropKey releasedAt
  split
  next state => rw [if_neg (by simp [state])]; rfl
  next state => rw [if_neg (by simp [state])]; rfl
  next state => rw [if_neg (by simp [state])]; rfl
  next state => rw [if_pos ⟨used, rfl, .inl state⟩]; rfl
  next state => rw [if_pos ⟨used, rfl, .inr state⟩]; rfl

theorem modify_of_some {l : List Key} {p : Nat} {k : Key} (at_ : l[p]? = some k) (f : Key → Key) : l.modify p f = l.set p (f k) := by
  rw [List.modify_eq_set_getElem?, at_]
  rfl

/-- One entry replaced: the keymap, the key and its event. -/
theorem setKeymapEntry_eq {p : Nat} {old : KeymapEntry} {s : State} (at_ : s.cfg.keymap[p]? = some old) (ent : KeymapEntry) :
    setKeymapEntry p ent s =
      admitAll ((s.keys.keys[p]?).bind fun k => releasedAt old ent.code p k s).toList
        (withKeymap (s.cfg.keymap.set p ent) (keysDropped p old ent s.keys.keys) s) := by
  have before : keymapAt s.cfg.keymap p = old := keymapAt_of_some at_
  simp only [setKeymapEntry, before, keysDropped]
  by_cases drops : ent.code = 0 ∧ old.code ≠ 0
  · rw [if_pos drops, if_pos drops, drops.1]
    cases key : s.keys.keys[p]? with
    | none =>
      rw [List.modify_eq_self (List.getElem?_eq_none_iff.mp key)]
      rfl
    | some k =>
      rw [modify_of_some key]
      exact offerMade_dropKey p drops.2 k s.keys.coldPress (withKeymap (s.cfg.keymap.set p ent) (s.keys.keys.set p (dropKey k).1) s)
  · rw [if_neg drops, if_neg drops]
    have none_ : ((s.keys.keys[p]?).bind fun k => releasedAt old ent.code p k s) = none := by
      cases s.keys.keys[p]? with
      | none => rfl
      | some k => exact if_neg fun h => drops ⟨h.2.1, h.1⟩
    rw [none_]
    rfl

/-- The keymap after the first `n` entries. -/
def keymapAfter (p : List Byte) (first : Nat) : Nat → List KeymapEntry → List KeymapEntry
  | 0, l => l
  | n + 1, l => (keymapAfter p first n l).set (first + n) (readKeymapEntry p n)

/-- The keys after the first `n` entries. -/
def keysAfter (p : List Byte) (first : Nat) (old : List KeymapEntry) : Nat → List Key → List Key
  | 0, l => l
  | n + 1, l => keysDropped (first + n) (keymapAt old (first + n)) (readKeymapEntry p n) (keysAfter p first old n l)

theorem keymapAfter_length (p : List Byte) (first : Nat) (l : List KeymapEntry) : ∀ n, (keymapAfter p first n l).length = l.length
  | 0 => rfl
  | n + 1 => (List.length_set ..).trans (keymapAfter_length p first l n)

theorem keymapAfter_getElem? (p : List Byte) (first : Nat) {l : List KeymapEntry} {q : Nat} (inside : q < l.length) : ∀ n,
    (keymapAfter p first n l)[q]? = if first ≤ q ∧ q < first + n then some (readKeymapEntry p (q - first)) else l[q]?
  | 0 => by rw [if_neg (by omega)]; rfl
  | n + 1 => by
    have before := keymapAfter_getElem? p first inside n
    by_cases here : q = first + n
    · subst here
      have sub : first + n - first = n := Nat.add_sub_cancel_left ..
      rw [if_pos (by omega), sub]
      exact List.getElem?_set_self (by rw [keymapAfter_length]; exact inside)
    · have same : (first ≤ q ∧ q < first + (n + 1)) ↔ (first ≤ q ∧ q < first + n) := by omega
      rw [if_congr same rfl rfl, ← before]
      exact List.getElem?_set_ne (Ne.symm here)

theorem keysDropped_getElem? (p q : Nat) (old ent : KeymapEntry) (l : List Key) :
    (keysDropped p old ent l)[q]? = (l[q]?).map fun k => if q = p ∧ ent.code = 0 ∧ old.code ≠ 0 then (dropKey k).1 else k := by
  unfold keysDropped
  by_cases drops : ent.code = 0 ∧ old.code ≠ 0
  · rw [if_pos drops, List.getElem?_modify]
    refine congrArg (Option.map · l[q]?) (funext fun k => ?_)
    by_cases here : p = q
    · rw [if_pos here, if_pos ⟨here.symm, drops⟩]
    · rw [if_neg here, if_neg fun h => here h.1.symm]
  · rw [if_neg drops]
    have kept : (fun k => if q = p ∧ ent.code = 0 ∧ old.code ≠ 0 then (dropKey k).1 else k) = id := funext fun k => if_neg fun h => drops h.2
    rw [kept, Option.map_id]
    rfl

theorem keysAfter_length (p : List Byte) (first : Nat) (old : List KeymapEntry) (l : List Key) : ∀ n, (keysAfter p first old n l).length = l.length
  | 0 => rfl
  | n + 1 => by
    rw [← keysAfter_length p first old l n, keysAfter, keysDropped]
    split
    · exact List.length_modify ..
    · rfl

/-- Whether the first `n` entries put the key at a position to rest. -/
def droppedBy (p : List Byte) (first : Nat) (old : List KeymapEntry) (n q : Nat) : Bool :=
  decide ((keymapAt old q).code ≠ 0 ∧ first ≤ q ∧ q < first + n ∧ (readKeymapEntry p (q - first)).code = 0)

theorem droppedBy_succ (p : List Byte) (first : Nat) (old : List KeymapEntry) (n q : Nat) :
    droppedBy p first old (n + 1) q = true ↔
      droppedBy p first old n q = true ∨ q = first + n ∧ (readKeymapEntry p n).code = 0 ∧ (keymapAt old (first + n)).code ≠ 0 := by
  simp only [droppedBy, decide_eq_true_eq]
  by_cases here : q = first + n
  · subst here
    have sub : first + n - first = n := Nat.add_sub_cancel_left ..
    rw [sub]
    have late : ¬ first + n < first + n := Nat.lt_irrefl _
    have within : first ≤ first + n ∧ first + n < first + (n + 1) := ⟨Nat.le_add_right .., by omega⟩
    tauto
  · have same : q < first + (n + 1) ∧ first ≤ q ↔ q < first + n ∧ first ≤ q := by omega
    tauto

theorem keysAfter_getElem? (p : List Byte) (first : Nat) (old : List KeymapEntry) (l : List Key) (q : Nat) : ∀ n,
    (keysAfter p first old n l)[q]? = (l[q]?).map fun k => if droppedBy p first old n q then (dropKey k).1 else k
  | 0 => by
    have never : droppedBy p first old 0 q = false := decide_eq_false (by omega)
    simp only [never, Bool.false_eq_true, if_false, Option.map_id']
    rfl
  | n + 1 => by
    rw [keysAfter, keysDropped_getElem?, keysAfter_getElem? p first old l q n, Option.map_map]
    refine congrArg (Option.map · l[q]?) (funext fun k => ?_)
    rw [if_congr (droppedBy_succ p first old n q) rfl rfl]
    simp only [Function.comp]
    by_cases here : q = first + n ∧ (readKeymapEntry p n).code = 0 ∧ (keymapAt old (first + n)).code ≠ 0
    · have before : ¬ droppedBy p first old n q = true := by
        rw [droppedBy, decide_eq_true_eq]
        omega
      rw [if_pos here, if_neg before, if_pos (Or.inr here)]
    · rw [if_neg here, if_congr (or_iff_left here) rfl rfl]

/-- The event of the `i`th entry. -/
def releasedOf (p : List Byte) (first : Nat) (s : State) (i : Nat) : Option (Bool × KeyEvent) :=
  (s.keys.keys[first + i]?).bind fun k => (s.cfg.keymap[first + i]?).bind fun old => releasedAt old (readKeymapEntry p i).code (first + i) k s

/-- The entries of a SET_KEYMAP: the keymap and the keys as all entries leave them, and the RELEASEs in position order. -/
theorem setKeymapEntries_eq (p : List Byte) (first : Nat) (s : State) : ∀ n, first + n ≤ s.cfg.keymap.length →
    setKeymapEntries p first n s =
      admitAll ((List.range n).filterMap (releasedOf p first s))
        (withKeymap (keymapAfter p first n s.cfg.keymap) (keysAfter p first s.cfg.keymap n s.keys.keys) s)
  | 0, _ => rfl
  | n + 1, fits => by
    have inside : first + n < s.cfg.keymap.length := by omega
    have start : withKeymap s.cfg.keymap s.keys.keys s = s := rfl
    obtain ⟨old, at_⟩ : ∃ old, s.cfg.keymap[first + n]? = some old := ⟨_, List.getElem?_eq_getElem inside⟩
    have default : keymapAt s.cfg.keymap (first + n) = old := keymapAt_of_some at_
    have before := setKeymapEntries_eq p first s n (by omega)
    rw [setKeymapEntries, before, admitAll_withKeymap]
    have frame := admitAll_frame ((List.range n).filterMap (releasedOf p first s)) s
    generalize hv : admitAll ((List.range n).filterMap (releasedOf p first s)) s = v at frame
    have unmoved : (keymapAfter p first n s.cfg.keymap)[first + n]? = some old := by
      rw [keymapAfter_getElem? p first inside, if_neg (by omega), at_]
    have key : (keysAfter p first s.cfg.keymap n s.keys.keys)[first + n]? = s.keys.keys[first + n]? := by
      have never : droppedBy p first s.cfg.keymap n (first + n) = false := decide_eq_false (by omega)
      rw [keysAfter_getElem?]
      simp only [never, Bool.false_eq_true, if_false, Option.map_id']
    rw [setKeymapEntry_eq (s := withKeymap _ _ v) unmoved]
    have released : ((withKeymap (keymapAfter p first n s.cfg.keymap) (keysAfter p first s.cfg.keymap n s.keys.keys) v).keys.keys[first + n]?.bind fun k =>
        releasedAt old (readKeymapEntry p n).code (first + n) k (withKeymap (keymapAfter p first n s.cfg.keymap) (keysAfter p first s.cfg.keymap n s.keys.keys) v)) =
        releasedOf p first s n := by
      have here : (withKeymap (keymapAfter p first n s.cfg.keymap) (keysAfter p first s.cfg.keymap n s.keys.keys) v).keys.keys[first + n]? = s.keys.keys[first + n]? := key
      rw [here, releasedOf, at_, frame]
      rfl
    rw [released, List.range_succ, List.filterMap_append, admitAll_append, admitAll_withKeymap, admitAll_withKeymap, admitAll_withKeymap,
      admitAll_withKeymap, hv, ← default]
    have single : [n].filterMap (releasedOf p first s) = (releasedOf p first s n).toList := by
      rw [List.filterMap_cons, List.filterMap_nil]
      cases releasedOf p first s n <;> rfl
    rw [single]
    rfl

/-! ### The payload -/

/-- The bytes of SET_KEYMAP. -/
def keymapPayload (first r0 r1 d0 d1 : Byte) (codes : List Byte) : List Byte := [first, byte codes.length, r0, r1, d0, d1] ++ codes

theorem readKeymapEntry_payload (first r0 r1 d0 d1 : Byte) (codes : List Byte) (i : Nat) :
    readKeymapEntry (keymapPayload first r0 r1 d0 d1 codes) i =
      { code := codes.getD i 0, repeats := (r0.toNat * 256 + r1.toNat).testBit i, deliver := (d0.toNat * 256 + d1.toNat).testBit i } := by
  have code : (keymapPayload first r0 r1 d0 d1 codes).getD (6 + i) 0 = codes.getD i 0 := by
    rw [Nat.add_comm]
    rfl
  rw [readKeymapEntry, code]
  rfl

theorem cmdSetKeymap_eq {first r0 r1 d0 d1 : Byte} {codes : List Byte} (filled : 1 ≤ codes.length) (few : codes.length ≤ 16) (s : State) :
    let p := keymapPayload first r0 r1 d0 d1 codes
    cmdSetKeymap p (taken s) =
      if 47 < first.toNat ∨ 48 < first.toNat + codes.length then replied 0x5D [0x12] s
      else settle (reply 0x5D .ok [] (setKeymapEntries p first.toNat codes.length (taken s))) := by
  intro p
  have first' : u8At p 0 = first.toNat := rfl
  have count : u8At p 1 = codes.length := byte_toNat (by omega)
  have length : p.length = 6 + codes.length := (List.length_append ..).trans rfl
  have good : ¬ (6 + codes.length < 6 ∨ codes.length = 0 ∨ 16 < codes.length ∨ 6 + codes.length ≠ 6 + codes.length) := by omega
  simp only [cmdSetKeymap, first', count, length, if_neg good]
  split
  · exact refuse_taken 0x5D .badIndex s
  · rfl

/-- The keys at rest, by their states (R133). -/
theorem dropKey_eq (k : Key) :
    (dropKey k).1 =
      if k.state = .pressPending ∨ k.state = .stuck then { k with state := .up, pending := 0 }
      else if k.state = .up then k
      else { k with state := .up, pending := 0, held := 0, repeatTime := 0, repeats := 0, delivering := false, repeating := false } := by
  unfold dropKey
  split <;> rename_i state <;> simp [state, restKey, releaseKey]

/-- SET_KEYMAP taken: the reply behind what it makes of keymap, keys and events. -/
theorem cmdSetKeymap_taken {first r0 r1 d0 d1 : Byte} {codes : List Byte} {s : State} (filled : 1 ≤ codes.length) (few : codes.length ≤ 16)
    (fits : first.toNat + codes.length ≤ 48) (low : first.toNat ≤ 47) (table : s.cfg.keymap.length = 48) :
    let p := keymapPayload first r0 r1 d0 d1 codes
    cmdSetKeymap p (taken s) = settle (replied 0x5D [0x00] (admitAll ((List.range codes.length).filterMap (releasedOf p first.toNat s))
      (withKeymap (keymapAfter p first.toNat codes.length s.cfg.keymap) (keysAfter p first.toNat s.cfg.keymap codes.length s.keys.keys) s))) := by
  intro p
  have inTable : ¬ (47 < first.toNat ∨ 48 < first.toNat + codes.length) := by omega
  have entries := setKeymapEntries_eq p first.toNat (taken s) codes.length (by rw [← table] at fits; exact fits)
  have before : releasedOf p first.toNat (taken s) = releasedOf p first.toNat s := rfl
  rw [cmdSetKeymap_eq filled few, if_neg inTable, entries, before]
  refine congrArg settle (Eq.trans ?_ (reply_taken 0x5D .ok [] _))
  rw [← admitAll_taken]
  rfl

/-- What the events, the reply and the deliveries leave of a state. -/
theorem answered_events (cls : Byte) (data : List Byte) (l : List (Bool × KeyEvent)) (w : State) :
    let t := settle (replied cls data (admitAll l w))
    t.cfg = w.cfg ∧ t.keys.keys = w.keys.keys ∧ t.sup = { w.sup with arm := none } ∧ t.ctl = w.ctl ∧ t.chan = w.chan ∧ t.pins = w.pins
      ∧ (w.link.up ++ [upFrame .reply (cls + 0x80) data]) <+: t.link.up := by
  intro t
  have delivered : SameButDeliveries (replied cls data (admitAll l w)) t := settle_deliveries _
  have up : (replied cls data (admitAll l w)).link.up <+: t.link.up := settle_up _
  have frame := admitAll_frame l w
  generalize admitAll l w = v at delivered up frame
  have field {α : Type} (f : State → α) (blind : ∀ s u : State, f (s.deliveredAs u) = f s)
      (own : ∀ q x b, f (replied cls data { w with keys.queue := q, keys.loss := x, note.pending := b }) = f (replied cls data w)) :
      f t = f (replied cls data w) := by
    rw [eq_of_delivered f blind delivered, frame]
    exact own ..
  refine ⟨field State.cfg (fun _ _ => rfl) fun _ _ _ => rfl, field (fun t => t.keys.keys) (fun _ _ => rfl) fun _ _ _ => rfl,
    field State.sup (fun _ _ => rfl) fun _ _ _ => rfl, field State.ctl (fun _ _ => rfl) fun _ _ _ => rfl,
    field State.chan (fun _ _ => rfl) fun _ _ _ => rfl, field State.pins (fun _ _ => rfl) fun _ _ _ => rfl, ?_⟩
  rw [frame] at up
  exact up

/-- Settles O42: the plain settings by what they put in force, and SET_KEYMAP by `setKeymapEntries_eq`. -/
theorem plainAndKeymapSettings : Obligations.PlainAndKeymapSettings := by
  refine ⟨fun s h => ⟨fun a b c d => ?_, fun d u => ⟨fun bad => ?_, fun down up => ?_⟩, fun tp tr c0 c1 kc s0 s1 d0 d1 p0 p1 => ?_⟩,
    fun first codes r0 r1 d0 d1 s h filled few => ?_⟩
  · exact (whenOn_commandArrives h fun _ => cmdSetTime [a, b, c, d]).trans (congrArg _ (cmdSetTime_eq a b c d s))
  · exact (whenOn_commandArrives h fun _ => cmdSetDefaultActions [d, u]).trans (congrArg _ (cmdSetDefaultActions_unknown bad s))
  · exact (whenOn_commandArrives h fun _ => cmdSetDefaultActions [d, u]).trans (congrArg _ (cmdSetDefaultActions_known down up s))
  · intro word clamp cold k asIs
    let p := [tp, tr, c0, c1, kc, s0, s1, d0, d1, p0, p1]
    have clamped : clampKeypad (readKeypad p) = k := clampKeypad_eq (readKeypad p)
    have row := (whenOn_commandArrives h fun _ => cmdSetKeypad p).trans (congrArg _ (cmdSetKeypad_eq (p := p) rfl s))
    rw [clamped] at row
    exact row
  · intro run
    let p := keymapPayload first r0 r1 d0 d1 codes
    have row {t : State} (same : cmdSetKeymap p (taken s) = t) : run = .next t := same ▸ whenOn_commandArrives h fun _ => cmdSetKeymap p
    refine ⟨fun bad => row ?_, fun fits low table => ?_⟩
    · rw [cmdSetKeymap_eq filled few, if_pos (by omega)]
    · refine ⟨_, row (cmdSetKeymap_taken filled few fits low table), ?_⟩
      obtain ⟨cfg, keys, sup, ctl, chan, pins, up⟩ := answered_events 0x5D [0x00] ((List.range codes.length).filterMap (releasedOf p first.toNat s))
        (withKeymap (keymapAfter p first.toNat codes.length s.cfg.keymap) (keysAfter p first.toNat s.cfg.keymap codes.length s.keys.keys) s)
      refine ⟨fun q inside => ?_, ?_, up, sup, ctl, chan, pins, ?_, ?_, fun q k ent key at_ => ?_⟩
      · rw [cfg]
        refine (keymapAfter_getElem? p first.toNat (table.symm ▸ inside) codes.length).trans ?_
        rw [readKeymapEntry_payload]
      · rw [cfg]
        rfl
      · rw [keys]
        exact keysAfter_length ..
      · rw [cfg, keys]
        intro released
        have same : released = (List.range codes.length).filterMap (releasedOf p first.toNat s) := by
          refine List.filterMap_congr fun i _ => ?_
          simp only [releasedOf, releasedAt, p, readKeymapEntry_payload]
        rw [same]
        rfl
      · rw [keys]
        refine (keysAfter_getElem? p first.toNat s.cfg.keymap s.keys.keys q codes.length).trans ?_
        rw [key, Option.map_some, dropKey_eq, droppedBy, keymapAt_of_some at_, readKeymapEntry_payload]
        simp only [decide_eq_true_eq]

end Sys2Proof.Machine
end

section
/-! The scan pass: what it makes of each key and each chord, and the events and firings that follow. -/

namespace Sys2Proof.Machine

/-! ## What a firing leaves of the keypad and the settings -/

/-- `t` has the key and chord records, the pins, the settings, the sensors, the pass counts and the store of `s`. -/
structure SameScan (s t : State) : Prop where
  keys : t.keys = { s.keys with queue := t.keys.queue, loss := t.keys.loss }
  pins : t.pins = s.pins
  cfg : t.cfg = s.cfg
  sens : t.sens = s.sens
  pass : t.pass = s.pass
  store : t.store = s.store

theorem SameScan.refl (s : State) : SameScan s s := ⟨rfl, rfl, rfl, rfl, rfl, rfl⟩

theorem SameScan.trans {s t u : State} (h : SameScan s t) (k : SameScan t u) : SameScan s u :=
  ⟨k.keys.trans (by rw [h.keys]), k.pins.trans h.pins, k.cfg.trans h.cfg, k.sens.trans h.sens, k.pass.trans h.pass, k.store.trans h.store⟩

theorem SameScan.ite {P : Prop} [Decidable P] {s t u : State} (h : SameScan s t) (k : SameScan s u) : SameScan s (if P then t else u) := by
  split
  · exact h
  · exact k

theorem SameScan.of_delivered {s t : State} (h : SameButDeliveries s t) : SameScan s t := by
  unfold SameButDeliveries at h
  exact ⟨congrArg (fun t => t.keys) h, congrArg (fun t => t.pins) h, congrArg (fun t => t.cfg) h, congrArg (fun t => t.sens) h,
    congrArg (fun t => t.pass) h, congrArg (fun t => t.store) h⟩

theorem SameScan.of_entered {s t : State} (h : t = s.enteredAs t) : SameScan s t :=
  ⟨congrArg (fun t => t.keys) h, congrArg (fun t => t.pins) h, congrArg (fun t => t.cfg) h, congrArg (fun t => t.sens) h,
    congrArg (fun t => t.pass) h, congrArg (fun t => t.store) h⟩

theorem settle_sameScan (s : State) : SameScan s (settle s) := .of_delivered (settle_deliveries s)

theorem enterPreheat_sameScan (s : State) : SameScan s (enterPreheat s) := by
  have begun : SameScan s (preheatBegun s) := .of_entered (preheatBegun_off s).2.1
  rw [enterPreheat_eq]
  exact .ite (begun.trans (.of_entered (enterPowerOn_enteredAs _))) begun

theorem carryOut_sameScan (a : RestartAction) (s : State) : SameScan s (carryOut a s) := by
  cases a
  · rw [carryOut_reset_eq]
    exact .ite (.of_entered (enteredAs_of_begun (enterRestart_begun s))) (.refl s)
  · rw [carryOut_powerCycle_eq]
    exact .ite (.of_entered (enterPowerCycle_off s).2.1) (.refl s)
  · rw [carryOut_cooldown_eq]
    exact .ite (.of_entered (enterCooldown_off s).2.1) (.refl s)
  · rw [carryOut_lockout_eq]
    exact .ite (.of_entered (enterOff_enteredAs .lockout s)) (.refl s)

theorem addRecord_sameScan (r : RestartRecord) (s : State) : SameScan s (addRecord r s) := ⟨rfl, rfl, rfl, rfl, rfl, rfl⟩

theorem request_sameScan (c : RestartCause) (s : State) : SameScan s (request c s) := by
  simp only [request]
  exact .ite ((addRecord_sameScan ..).trans (carryOut_sameScan ..)) (.refl s)

theorem showOverlay_sameScan (o : Overlay) (s : State) : SameScan s (showOverlay o s) := ⟨rfl, rfl, rfl, rfl, rfl, rfl⟩

theorem handOn_sameScan (a : ChordAction) (s : State) : SameScan s (handOn a s) := by
  have refused : SameScan s (showOverlay .refused s) := showOverlay_sameScan ..
  have floor : SameScan s { s with sup.floor := s.clock.uptime } := ⟨rfl, rfl, rfl, rfl, rfl, rfl⟩
  cases a
  case requestRestart => exact .ite ((request_sameScan ..).trans (showOverlay_sameScan ..)) refused
  case skipWarmup =>
    unfold handOn
    refine .ite ?_ refused
    split
    · exact refused
    · exact .ite (.trans (.of_entered (enterPowerOn_enteredAs s)) (showOverlay_sameScan ..)) refused
  case clearLockout =>
    simp only [handOn]
    split
    · exact (floor.trans (enterPreheat_sameScan _)).trans (showOverlay_sameScan ..)
    · exact floor.trans ⟨rfl, rfl, rfl, rfl, rfl, rfl⟩
    all_goals exact floor.trans (showOverlay_sameScan ..)
  case report => exact showOverlay_sameScan ..

theorem takeFirings_sameScan (n : Nat) (s : State) : SameScan s (takeFirings n s) :=
  takeFirings_keeps (P := SameScan s) (fun _ rest u _ h => h.trans (.trans (t := { u with ctl.firings := rest }) ⟨rfl, rfl, rfl, rfl, rfl, rfl⟩ (handOn_sameScan ..))) n s
    (.refl s)

theorem handFirings_sameScan (l : List ChordAction) (s : State) : SameScan s (handFirings l s) := by
  unfold handFirings
  exact .ite (.refl s) (.trans (t := { s with ctl.firings := s.ctl.firings ++ l, draw := s.draw + 1 }) ⟨rfl, rfl, rfl, rfl, rfl, rfl⟩ (takeFirings_sameScan ..))

/-! ## A key at a pass (R127 to R131) -/

/-- A key back in UP after a press, its record cleared. -/
def Key.cleared (k : Key) : Key :=
  { k with state := .up, pending := 0, held := 0, repeatTime := 0, repeats := 0, delivering := false, repeating := false }

/-- The key that a pass makes of a key, by its cases. -/
def nextKey (q : KeypadParams) (press rel : Nat) (ent : KeymapEntry) (closed : Bool) (k : Key) : Key :=
  if k.state = .up then (if closed then { k with state := .pressPending, pending := 0 } else k)
  else if k.state = .pressPending then
    (if closed = false then { k with state := .up, pending := 0 }
     else if press ≤ k.pending + 5 then
      { k with state := .down, pending := 0, held := 0, repeatTime := 0, repeats := 0, delivering := ent.deliver, repeating := ent.repeats }
     else { k with pending := k.pending + 5 })
  else if k.state = .stuck then
    (if closed then { k with pending := 0 }
     else if rel ≤ k.pending + 5 then { k with state := .up, pending := 0 } else { k with pending := k.pending + 5 })
  else if q.tStuck ≠ 0 ∧ q.tStuck * 1000 ≤ min 600000 (k.held + 5) then
    { k with state := .stuck, pending := 0, held := min 600000 (k.held + 5), repeatTime := 0, repeats := 0, delivering := false }
  else if k.state = .releasePending then
    (if closed then { k with state := .down, pending := 0, held := min 600000 (k.held + 5) }
     else if rel ≤ k.pending + 5 then Key.cleared { k with held := min 600000 (k.held + 5) }
     else { k with pending := k.pending + 5, held := min 600000 (k.held + 5) })
  else if closed = false then { k with state := .releasePending, pending := 0, held := min 600000 (k.held + 5) }
  else if k.repeating = false then { k with held := min 600000 (k.held + 5) }
  else if (if k.repeats = 0 then q.repeatDelay else q.repeatPeriod) ≤ k.repeatTime + 5 then
    { k with held := min 600000 (k.held + 5), repeatTime := 0, repeats := k.repeats + 1 }
  else { k with held := min 600000 (k.held + 5), repeatTime := k.repeatTime + 5 }

/-- The event that a pass makes at a key: whether it is delivered, its kind, and its stuck flag. -/
def madeAt (q : KeypadParams) (press rel : Nat) (ent : KeymapEntry) (closed : Bool) (k : Key) : Option (Bool × KeyKind × Bool) :=
  if k.state = .pressPending then
    (if closed = true ∧ press ≤ k.pending + 5 then some (ent.deliver, .press, false) else none)
  else if k.state = .up ∨ k.state = .stuck then none
  else if q.tStuck ≠ 0 ∧ q.tStuck * 1000 ≤ min 600000 (k.held + 5) then some (k.delivering, .release, true)
  else if k.state = .releasePending then
    (if closed = false ∧ rel ≤ k.pending + 5 then some (k.delivering, .release, false) else none)
  else if closed = true ∧ k.repeating = true ∧ (if k.repeats = 0 then q.repeatDelay else q.repeatPeriod) ≤ k.repeatTime + 5 then
    some (k.delivering, .repeated, false)
  else none

/-- An event as the statements write it. -/
def Made.fields (m : Made) : Bool × KeyKind × Bool := (m.delivering, m.kind, m.stuck)

theorem reachesStuck_eq (q : KeypadParams) (held : Nat) : reachesStuck q held = decide (q.tStuck ≠ 0 ∧ q.tStuck * 1000 ≤ held) := by
  rw [reachesStuck, Bool.decide_and]

/-- A key in DOWN or RELEASE_PENDING that the pass does not judge stuck. -/
theorem heldKey_eq (q : KeypadParams) (press rel : Nat) (ent : KeymapEntry) (closed : Bool) {k : Key} (down : k.state = .down ∨ k.state = .releasePending)
    (free : ¬ (q.tStuck ≠ 0 ∧ q.tStuck * 1000 ≤ min 600000 (k.held + 5))) :
    (heldKey q rel closed { k with held := runHeld k.held }).1 = nextKey q press rel ent closed k
      ∧ (heldKey q rel closed { k with held := runHeld k.held }).2.map Made.fields = madeAt q press rel ent closed k := by
  obtain ⟨raw, ambiguous, state, pending, held, repeatTime, repeats, delivering, repeating⟩ := k
  simp only at down free
  simp only [nextKey, madeAt, heldKey, if_neg free]
  rcases down with rfl | rfl
  · cases closed
    · exact ⟨rfl, rfl⟩
    · cases repeating
      · exact ⟨rfl, rfl⟩
      · by_cases due : (if repeats = 0 then q.repeatDelay else q.repeatPeriod) ≤ repeatTime + 5
        · simp [repeatDue, due, repeatKey, runHeld, Made.fields]
        · simp [repeatDue, due, runHeld]
  · cases closed
    · by_cases long : rel ≤ pending + 5
      · simp [long, releaseKey, Key.cleared, Made.fields]
      · simp [long, runHeld]
    · exact ⟨rfl, rfl⟩

theorem downKey_eq (q : KeypadParams) (press rel : Nat) (ent : KeymapEntry) (closed : Bool) {k : Key} (down : k.state = .down ∨ k.state = .releasePending) :
    let k' := { k with held := runHeld k.held }
    let r := if reachesStuck q k'.held then stickKey k' else heldKey q rel closed k'
    r.1 = nextKey q press rel ent closed k ∧ r.2.map Made.fields = madeAt q press rel ent closed k := by
  intro k' r
  by_cases stuck : q.tStuck ≠ 0 ∧ q.tStuck * 1000 ≤ min 600000 (k.held + 5)
  · have sticks : r = stickKey k' := if_pos ((reachesStuck_eq ..).trans (decide_eq_true stuck))
    rw [sticks, nextKey, madeAt, if_pos stuck, if_pos stuck]
    rcases down with state | state <;> simp [state, k', stickKey, runHeld, Made.fields]
  · have holds : r = heldKey q rel closed k' := if_neg (Bool.eq_false_iff.mp ((reachesStuck_eq ..).trans (decide_eq_false stuck)))
    rw [holds]
    exact heldKey_eq q press rel ent closed down stuck

theorem stepKey_eq (q : KeypadParams) (press rel : Nat) (ent : KeymapEntry) (closed : Bool) (k : Key) :
    (stepKey ent q press rel closed k).1 = nextKey q press rel ent closed k
      ∧ (stepKey ent q press rel closed k).2.map Made.fields = madeAt q press rel ent closed k := by
  unfold stepKey
  split
  next state => cases closed <;> simp [nextKey, madeAt, state]
  next state =>
    cases closed
    · simp [nextKey, madeAt, state, restKey]
    · by_cases due : press ≤ k.pending + 5
      · simp [nextKey, madeAt, state, due, pressKey, Made.fields]
      · simp [nextKey, madeAt, state, due]
  next state => exact downKey_eq q press rel ent closed (.inl state)
  next state => exact downKey_eq q press rel ent closed (.inr state)
  next state =>
    cases closed
    · by_cases due : rel ≤ k.pending + 5
      · simp [nextKey, madeAt, state, due, restKey]
      · simp [nextKey, madeAt, state, due]
    · simp [nextKey, madeAt, state]

/-- One key at a pass: the ambiguous held, the unused at rest, and the others moved (R126, R132). -/
theorem passKey_eq (ent : KeymapEntry) (q : KeypadParams) (press rel : Nat) (closed ambiguous : Bool) (k : Key) :
    let k' := { k with raw := closed, ambiguous := ambiguous }
    (passKey ent q press rel closed ambiguous k).1 =
        (if ambiguous then k' else if ent.code = 0 then { k' with state := .up, pending := 0 } else nextKey q press rel ent closed k')
      ∧ (passKey ent q press rel closed ambiguous k).2.map Made.fields =
          if ambiguous = true ∨ ent.code = 0 then none else madeAt q press rel ent closed k := by
  intro k'
  unfold passKey
  cases ambiguous
  · by_cases unused : ent.code = 0
    · simp only [unused, Bool.false_eq_true, if_false, if_true, or_true]
      exact ⟨rfl, rfl⟩
    · obtain ⟨key, made⟩ := stepKey_eq q press rel ent closed k'
      simp only [unused, Bool.false_eq_true, if_false, or_self]
      exact ⟨key, made⟩
  · exact ⟨rfl, rfl⟩

/-! ## The stages of a pass (R125) -/

/-- A pass begun: the matrix read and the times of the pass put in force. -/
def scanBegun (m : Matrix) (s : State) : State :=
  { s with
    pins.matrix := m, keys.scanAt := s.clock.now, keys.pressEff := pressEff s, keys.relEff := relEff s
    keys.coldPress := coldNow s, keys.coldRel := coldNow s }

/-- The keys as the pass leaves them. -/
def keysScanned (m : Matrix) (s : State) : List Key := (stepKeys m (scanBegun m s)).map Prod.fst

/-- The chords as the pass leaves them, and whether each fires. -/
def chordsScanned (m : Matrix) (s : State) : List (ChordRun × Bool) := stepChords { scanBegun m s with keys.keys := keysScanned m s }

/-- A pass before its events. -/
def scanned (m : Matrix) (s : State) : State :=
  { scanBegun m s with keys.keys := keysScanned m s, keys.chords := (chordsScanned m s).map Prod.fst }

theorem stepKeys_getElem? (m : Matrix) (s : State) (p : Nat) :
    (stepKeys m (scanBegun m s))[p]? = (s.keys.keys[p]?).map fun k =>
      passKey (keymapAt s.cfg.keymap p) s.cfg.keypad (pressEff s) (relEff s) (m.getLsbD p) (isAmbiguous m p) k := by
  rw [stepKeys, List.getElem?_map, List.getElem?_zipIdx, Option.map_map, Nat.zero_add]
  rfl

theorem stepKeys_length (m : Matrix) (s : State) : (stepKeys m (scanBegun m s)).length = s.keys.keys.length := by
  rw [stepKeys, List.length_map, List.length_zipIdx]
  rfl

theorem stepChords_getElem? (s : State) (i : Nat) :
    (stepChords s)[i]? = (s.keys.chords[i]?).map fun c =>
      stepChord (chordAt s i) (isHeld s.keys.keys (chordAt s i)) (inPhaseSet (chordAt s i).phases s.ctl.phase)
        ((chordAt s i).members.all (upAt s.keys.keys)) c := by
  rw [stepChords, List.getElem?_map, List.getElem?_zipIdx, Option.map_map, Nat.zero_add]
  rfl

/-! ## Events -/

/-- A CHORD event or the blank of a key's event, of an instant. -/
def blankEvent (s : State) : KeyEvent :=
  { kind := .chord, position := none, code := 0, chord := none, cold := coldNow s, stuck := false, resync := false, truncated := false
    stamp := s.clock.cabinet, codes := [] }

/-- The event record of a key, of an instant. -/
def madeEvent (s : State) (p : Nat) (m : Made) : Bool × KeyEvent :=
  (m.delivering, { blankEvent s with kind := m.kind, position := some p, code := (keymapAt s.cfg.keymap p).code, stuck := m.stuck })

/-- What an event record is made of is as in `s`. -/
def SameInstant (s u : State) : Prop := u.cfg = s.cfg ∧ u.sens = s.sens ∧ u.clock = s.clock

theorem SameInstant.blankEvent {s u : State} (h : SameInstant s u) : blankEvent u = blankEvent s := by
  obtain ⟨cfg, sens, clock⟩ := h
  simp only [Machine.blankEvent, coldNow, extensionOf, cfg, sens, clock]

theorem SameInstant.admitEvent {s u : State} (h : SameInstant s u) (d : Bool) (e : KeyEvent) : SameInstant s (admitEvent d e u) := by
  obtain ⟨cfg, sens, clock⟩ := h
  have frame := admitEvent_frame d e u
  exact ⟨(congrArg (fun t => t.cfg) frame).trans cfg, (congrArg (fun t => t.sens) frame).trans sens, (congrArg (fun t => t.clock) frame).trans clock⟩

theorem SameInstant.admitAll {s u : State} (h : SameInstant s u) (l : List (Bool × KeyEvent)) : SameInstant s (admitAll l u) := by
  induction l generalizing u with
  | nil => exact h
  | cons x l ih => exact ih (h.admitEvent x.1 x.2)

theorem offerAll_eq {s : State} : ∀ (l : List (Option Made × Nat)) {u : State}, SameInstant s u →
    offerAll l u = admitAll (l.filterMap fun mp => mp.1.map (madeEvent s mp.2)) u
  | [], _, _ => rfl
  | (none, p) :: l, u, h => offerAll_eq l h
  | (some m, p) :: l, u, h => by
    have first : offerMade p (keymapAt u.cfg.keymap p).code (some m) (coldNow u) (coldNow u) u =
        admitEvent m.delivering (madeEvent s p m).2 u := by
      rw [offerMade_alike, madeEvent, ← h.blankEvent, ← h.1]
      rfl
    exact (congrArg (offerAll l) first).trans (offerAll_eq l (h.admitEvent ..))

theorem offerChords_eq {s : State} : ∀ (l : List Nat) {u : State}, SameInstant s u →
    l.foldl (fun s i => offerChord i s) u = admitAll (l.map fun i => (false, { blankEvent s with chord := some i })) u
  | [], _, _ => rfl
  | i :: l, u, h => by
    have first : offerChord i u = admitEvent false { blankEvent s with chord := some i } u := by
      rw [← h.blankEvent]
      rfl
    exact (congrArg (fun v => l.foldl (fun s i => offerChord i s) v) first).trans (offerChords_eq l (h.admitEvent ..))

/-- The events of the keys at a pass, in position order. -/
def keyEvents (m : Matrix) (s : State) : List (Bool × KeyEvent) :=
  ((stepKeys m (scanBegun m s)).map Prod.snd).zipIdx.filterMap fun mp => mp.1.map (madeEvent s mp.2)

/-- The events of the chords that fire. -/
def chordEvents (l : List Nat) (s : State) : List (Bool × KeyEvent) := l.map fun i => (false, { blankEvent s with chord := some i })

/-- A pass, whole. -/
theorem scan_eq (m : Matrix) (s : State) :
    let fired := firedOf (chordsScanned m s)
    scan m s = handFirings (actionsOf fired s) (admitAll (keyEvents m s ++ chordEvents fired s) (scanned m s)) := by
  intro fired
  have start : SameInstant s (scanned m s) := ⟨rfl, rfl, rfl⟩
  have keys : offerAll ((stepKeys m (scanBegun m s)).map Prod.snd).zipIdx (scanned m s) = admitAll (keyEvents m s) (scanned m s) := offerAll_eq _ start
  have chords : fired.foldl (fun s i => offerChord i s) (admitAll (keyEvents m s) (scanned m s)) =
      admitAll (chordEvents fired s) (admitAll (keyEvents m s) (scanned m s)) := offerChords_eq fired (start.admitAll _)
  have shape : scan m s =
      let u := fired.foldl (fun s i => offerChord i s) (offerAll ((stepKeys m (scanBegun m s)).map Prod.snd).zipIdx (scanned m s))
      handFirings (actionsOf fired u) u := rfl
  have actions {u : State} (h : SameInstant s u) : actionsOf fired u = actionsOf fired s := by
    simp only [actionsOf, chordAt, h.1]
  rw [shape, keys, chords, ← admitAll_append]
  simp only [actions (start.admitAll _)]

/-! ## The stages place by place -/

theorem filterMap_zipIdx_map {α β γ : Type} (l : List α) (f : α → β) (g : β → Nat → Option γ) :
    (l.map f).zipIdx.filterMap (fun x => g x.1 x.2) = (List.range l.length).filterMap fun p => (l[p]?).bind fun a => g (f a) p := by
  rw [zipIdx_filterMap, List.length_map]
  refine List.filterMap_congr fun p _ => ?_
  rw [List.getElem?_map]
  cases l[p]? <;> rfl

/-- The events of the keys at a pass, as the statement writes them. -/
theorem keyEvents_eq (m : Matrix) (s : State) :
    keyEvents m s = (List.range s.keys.keys.length).filterMap fun p =>
      (s.keys.keys[p]?).bind fun k => (s.cfg.keymap[p]?).bind fun ent =>
        if isAmbiguous m p = true ∨ ent.code = 0 then none
        else (madeAt s.cfg.keypad (pressEff s) (relEff s) ent (m.getLsbD p) k).map fun x =>
          (x.1, { blankEvent s with kind := x.2.1, position := some p, code := ent.code, stuck := x.2.2 }) := by
  have places := filterMap_zipIdx_map (stepKeys m (scanBegun m s)) Prod.snd fun made p => made.map (madeEvent s p)
  refine places.trans ?_
  rw [stepKeys_length]
  refine List.filterMap_congr fun p _ => ?_
  rw [stepKeys_getElem?]
  cases s.keys.keys[p]? with
  | none => rfl
  | some k =>
    obtain ⟨-, made⟩ := passKey_eq (keymapAt s.cfg.keymap p) s.cfg.keypad (pressEff s) (relEff s) (m.getLsbD p) (isAmbiguous m p) k
    have event : (madeEvent s p) = (fun x : Bool × KeyKind × Bool =>
        (x.1, { blankEvent s with kind := x.2.1, position := some p, code := (keymapAt s.cfg.keymap p).code, stuck := x.2.2 })) ∘ Made.fields := rfl
    simp only [Option.map_some, Option.bind_some]
    rw [event, ← Option.map_map, made]
    cases at_ : s.cfg.keymap[p]? with
    | none =>
      have unused : (keymapAt s.cfg.keymap p).code = 0 := by rw [keymapAt, List.getD_eq_getElem?_getD, at_]; rfl
      rw [if_pos (.inr unused)]
      rfl
    | some ent =>
      rw [keymapAt_of_some at_]
      split <;> simp only [Option.bind_some, Option.map_none, *, if_true, if_false]

/-- A chord's definition and what a pass makes of it, by the keys as the pass leaves them. -/
def chordPass (keys : List Key) (s : State) (i : Nat) : Option (ChordDef × (ChordRun × Bool)) :=
  (s.cfg.chords[i]?).bind fun d => (s.keys.chords[i]?).map fun c =>
    (d, stepChord d (isHeld keys d) (inPhaseSet d.phases s.ctl.phase) (d.members.all fun p => (keys[p]?).any fun k => decide (k.state = .up)) c)

theorem chordsScanned_getElem? {m : Matrix} {s : State} {i : Nat} {x : ChordDef × (ChordRun × Bool)} (pass : chordPass (keysScanned m s) s i = some x) :
    (chordsScanned m s)[i]? = some x.2 ∧ chordAt s i = x.1 := by
  unfold chordPass at pass
  cases chord : s.cfg.chords[i]? with
  | none => rw [chord] at pass; cases pass
  | some d =>
    rw [chord] at pass
    cases run : s.keys.chords[i]? with
    | none => rw [run] at pass; cases pass
    | some c =>
      rw [run] at pass
      cases pass
      refine ⟨?_, chordAt_of_some chord⟩
      have at_ : chordAt { scanBegun m s with keys.keys := keysScanned m s } i = d := chordAt_of_some chord
      have rested : upAt (keysScanned m s) = fun p => ((keysScanned m s)[p]?).any fun k => decide (k.state = .up) := funext (upAt_eq _)
      refine (stepChords_getElem? _ i).trans ?_
      rw [at_, ← rested]
      exact congrArg (Option.map _) run

theorem chordsScanned_length (m : Matrix) (s : State) : (chordsScanned m s).length = s.keys.chords.length := by
  rw [chordsScanned, stepChords, List.length_map, List.length_zipIdx]
  rfl

/-- A chord without a definition does not fire. -/
theorem not_fired_of_none {m : Matrix} {s : State} {i : Nat} (none_ : chordPass (keysScanned m s) s i = none) :
    ((chordsScanned m s)[i]?).all fun x => !x.2 := by
  have at_ := stepChords_getElem? { scanBegun m s with keys.keys := keysScanned m s } i
  have place : (chordsScanned m s)[i]? = _ := at_
  rw [place]
  cases run : s.keys.chords[i]? with
  | none =>
    have run' : (({ scanBegun m s with keys.keys := keysScanned m s } : State).keys.chords)[i]? = none := run
    rw [run']
    rfl
  | some c =>
    have run' : (({ scanBegun m s with keys.keys := keysScanned m s } : State).keys.chords)[i]? = some c := run
    have unnamed : s.cfg.chords[i]? = none := by
      cases chord : s.cfg.chords[i]? with
      | none => rfl
      | some d => rw [chordPass, chord, run] at none_; cases none_
    have unused : (chordAt { scanBegun m s with keys.keys := keysScanned m s } i).count = 0 := by
      rw [chordAt, List.getD_eq_getElem?_getD]
      have unnamed' : (({ scanBegun m s with keys.keys := keysScanned m s } : State).cfg.chords)[i]? = none := unnamed
      rw [unnamed']
      rfl
    rw [run', Option.map_some, stepChord, if_pos unused]
    rfl

theorem firedOf_eq (m : Matrix) (s : State) :
    firedOf (chordsScanned m s) = (List.range s.keys.chords.length).filter fun i => (chordPass (keysScanned m s) s i).any fun x => x.2.2 := by
  have asFilterMap (l : List ((ChordRun × Bool) × Nat)) : (l.filter fun x => x.1.2).map Prod.snd = l.filterMap fun x => if x.1.2 then some x.2 else none := by
    rw [← List.filterMap_eq_map, ← List.filterMap_eq_filter, List.filterMap_filterMap]
    refine List.filterMap_congr fun x _ => ?_
    cases fires : x.1.2 <;> simp [Option.guard, fires]
  rw [firedOf, asFilterMap, zipIdx_filterMap, chordsScanned_length, ← List.filterMap_eq_filter]
  refine List.filterMap_congr fun i _ => ?_
  cases pass : chordPass (keysScanned m s) s i with
  | none =>
    have quiet := not_fired_of_none pass
    cases place : (chordsScanned m s)[i]? with
    | none => simp [Option.guard, pass]
    | some x =>
      rw [place] at quiet
      have silent : x.2 = false := by simpa using quiet
      simp [Option.guard, pass, silent]
  | some x =>
    rw [(chordsScanned_getElem? pass).1]
    cases fires : x.2.2 <;> simp [Option.guard, pass, fires]

theorem actionsOf_eq (m : Matrix) (s : State) :
    actionsOf (firedOf (chordsScanned m s)) s =
      (firedOf (chordsScanned m s)).filterMap fun i => (chordPass (keysScanned m s) s i).map fun x => x.1.action := by
  rw [actionsOf, ← List.filterMap_eq_map]
  refine List.filterMap_congr fun i fires => ?_
  rw [firedOf_eq] at fires
  obtain ⟨x, pass, -⟩ := (Option.any_eq_true _ _).mp (List.mem_filter.mp fires).2
  rw [pass, Option.map_some, ← (chordsScanned_getElem? pass).2]
  rfl

theorem effectiveTime_eq (base : Nat) (ext : Option Nat) : effectiveTime base ext = ext.elim 120 fun e => min 120 (base + e) := by cases ext <;> rfl

theorem admitAll_sameScan (l : List (Bool × KeyEvent)) (s : State) : SameScan s (admitAll l s) := by
  have frame := admitAll_frame l s
  exact ⟨congrArg (fun t => t.keys) frame, congrArg (fun t => t.pins) frame, congrArg (fun t => t.cfg) frame, congrArg (fun t => t.sens) frame,
    congrArg (fun t => t.pass) frame, congrArg (fun t => t.store) frame⟩

theorem scan_sameScan (m : Matrix) (s : State) : SameScan (scanned m s) (settle (scan m s)) := by
  rw [scan_eq]
  exact ((admitAll_sameScan ..).trans (handFirings_sameScan ..)).trans (settle_sameScan _)

/-- Settles O49: a pass by its stages, each place by place. -/
theorem scanPassMovesTheKeys : Obligations.ScanPassMovesTheKeys := by
  intro m s hp
  refine ⟨settle (scan m s), whenOn_of_powered hp fun s => settle (scan m s), ?_⟩
  have same := scan_sameScan m s
  have whole : settle (scan m s) = _ := congrArg settle (scan_eq m s)
  have keys : (settle (scan m s)).keys.keys = keysScanned m s := congrArg Keypad.keys same.keys
  have chords : (settle (scan m s)).keys.chords = (chordsScanned m s).map Prod.fst := congrArg Keypad.chords same.keys
  generalize settle (scan m s) = t at same whole keys chords
  beta_reduce
  intro q ext eff stuckAt up next
  have press : eff q.tPress = pressEff s := (effectiveTime_eq ..).symm
  have release : eff q.tRel = relEff s := (effectiveTime_eq ..).symm
  have cold : decide (ext ≠ some 0) = coldNow s := (coldNow_eq s).symm
  have moved (ent : KeymapEntry) (closed : Bool) (k : Key) : next ent closed k = nextKey q (pressEff s) (relEff s) ent closed k := by
    rw [← press, ← release]
    rfl
  refine ⟨fun p k ent key at_ => ?_, ?_, ?_, ?_, ?_, ?_, congrArg Keypad.scanAt same.keys, same.pins, same.cfg, same.sens, same.pass, same.store, ?_⟩
  · intro k'
    rw [keys, keysScanned, List.getElem?_map, stepKeys_getElem?, key, keymapAt_of_some at_, moved]
    exact congrArg some (passKey_eq ..).1
  · rw [keys, keysScanned, List.length_map, stepKeys_length]
  · exact (congrArg Keypad.pressEff same.keys).trans press.symm
  · exact (congrArg Keypad.relEff same.keys).trans release.symm
  · exact (congrArg Keypad.coldPress same.keys).trans cold.symm
  · exact (congrArg Keypad.coldRel same.keys).trans cold.symm
  · intro made blank ofKeys chord fired ofChords
    have pass (i : Nat) : chord i = chordPass (keysScanned m s) s i := by rw [← keys]; rfl
    have fires : fired = firedOf (chordsScanned m s) := by
      rw [firedOf_eq]
      refine List.filter_congr fun i _ => ?_
      rw [pass]
    have blank_ : blank = blankEvent s := by
      simp only [blank, cold]
      rfl
    have ofKeys_ : ofKeys = keyEvents m s := by
      have made_ (ent : KeymapEntry) (closed : Bool) (k : Key) : made ent closed k = madeAt q (pressEff s) (relEff s) ent closed k := by
        rw [← press, ← release]
        rfl
      rw [keyEvents_eq]
      simp only [ofKeys, made_, blank_]
      rfl
    have ofChords_ : ofChords = chordEvents fired s := by
      simp only [ofChords, blank_]
      rfl
    refine ⟨fun i x found => ?_, ?_, ?_⟩
    · rw [pass] at found
      rw [chords, List.getElem?_map, (chordsScanned_getElem? found).1]
      rfl
    · rw [chords, List.length_map, chordsScanned_length]
    · have start : scanned m s = { s with pins.matrix := m, keys := { t.keys with queue := s.keys.queue, loss := s.keys.loss } } := by
        rw [same.keys]
        rfl
      have actions : fired.filterMap (fun i => (chord i).map fun x => x.1.action) = actionsOf fired s := by
        rw [fires, actionsOf_eq]
        simp only [pass]
      rw [actions, ofKeys_, ofChords_, ← start, fires]
      exact whole

end Sys2Proof.Machine
end

section
/-! The commands that read: status, history and counters, byte by byte. -/

namespace Sys2Proof.Machine

/-! ## The status record (R161) -/

theorem flags_four (a b c d : Bool) :
    byte (bitsByte [a, b, c, d]) = (if a then 1 else 0) + (if b then 2 else 0) + (if c then 4 else 0) + (if d then 8 else 0) := by
  revert a b c d
  decide

theorem flags_three (a b c : Bool) :
    let bit (n : Nat) (b : Bool) : Byte := if b then BitVec.ofNat 8 (2 ^ n) else 0
    byte (bitsByte [a, b, c]) = bit 0 a + bit 1 b + bit 2 c := by
  revert a b c
  decide

theorem gateCode_byte (g : Gate) : byte (gateCode g) = if g.satisfied = false then 0 else if g.complete then 2 else 1 := by
  unfold gateCode
  cases g.satisfied <;> cases g.complete <;> rfl

theorem tempBytes_eq (t : Option Int) : tempBytes t = t.elim [0x80, 0x00] beInt := by cases t <;> rfl

theorem deadlineSeconds_eq (s : State) :
    deadlineSeconds s = if s.sup.deadline ∈ [DeadlineState.bootWindow, .heartbeat] then (s.sup.expiry - s.clock.now + 999999) / 1000000 else 0 := by
  rw [deadlineSeconds]
  cases s.sup.deadline with
  | stopped => exact (if_neg (by decide)).symm
  | bootWindow => exact (if_pos (by decide)).symm
  | heartbeat => exact (if_pos (by decide)).symm
  | suspended => exact (if_neg (by decide)).symm

theorem suspensionSeconds_eq (s : State) : suspensionSeconds s = s.sup.suspension.elim 0 fun x => (x.expiry - s.clock.now + 999999) / 1000000 := by
  cases suspension : s.sup.suspension with
  | none => rw [suspensionSeconds, suspension, Option.elim_none]
  | some x =>
    have left : suspensionSeconds s = secondsLeft x.expiry s.clock.now := by rw [suspensionSeconds, suspension]
    rw [left, Option.elim_some, secondsLeft]

theorem eligible_count (s : State) : (eligible s).length = (List.range 13).countP fun n => (s.note.pending &&& s.cfg.enables).getLsbD n := by
  rw [eligible_length, causeNumbers, List.countP_eq_length_filter]

theorem keysDown_eq (s : State) : keysDown s = s.keys.keys.countP fun k => decide (k.state = .down ∨ k.state = .releasePending) := by
  have test : Key.isDown = fun k : Key => decide (k.state = .down ∨ k.state = .releasePending) := by
    funext k
    rw [Key.isDown, Bool.decide_or, beq_eq_decide, beq_eq_decide]
  rw [keysDown, test]

theorem cmdGetStatus_eq (s : State) :
    cmdGetStatus [] (taken s) =
      replied 0x40 (0x00 :: if s.note.statusPart2 then statusPart2 s else statusPart1 s) { s with note.statusPart2 := !s.note.statusPart2 } :=
  reply_taken 0x40 .ok (if s.note.statusPart2 then statusPart2 s else statusPart1 s) { s with note.statusPart2 := !s.note.statusPart2 }

/-! ## The history and the counters (R147, R148, R162) -/

theorem cmdGetHistory_eq {start : Byte} (small : start.toNat ≤ 7) (count : Byte) (s : State) :
    let l := (s.sup.history.reverse.drop start.toNat).take (min 2 count.toNat)
    cmdGetHistory [start, count] (taken s) =
      replied 0x44
        ((if 2 < count.toNat then 0x01 else 0x00) ::
          if min 2 count.toNat = 0 then byte s.sup.history.length :: be32 s.sup.floor
          else byte s.sup.history.length :: byte l.length :: l.flatMap writeRecord) s := by
  intro l
  have length : [start, count].length = 2 := rfl
  have index : ¬ 7 < u8At [start, count] 0 := Nat.not_lt.mpr small
  have code : (clampedIf (decide (2 < count.toNat))).code = if 2 < count.toNat then 0x01 else 0x00 := by rw [clampedIf_code]; simp only [decide_eq_true_eq]
  rw [cmdGetHistory, if_neg (not_not_intro length), if_neg index, ← code]
  exact reply_taken 0x44 _ _ s

/-- Settles O41: the status parts field by field, the history by its places, and the counters in their order. -/
theorem statusHistoryAndCounters : Obligations.StatusHistoryAndCounters := by
  intro s h bit left
  refine ⟨?_, ?_, rfl, rfl, ?_, fun r => ⟨?_, ?_⟩, fun c => rfl, fun start count => ⟨fun large => ?_, fun small none_ => ?_, fun small counted => ?_⟩, ?_, ?_⟩
  · exact (whenOn_commandArrives h fun _ => cmdGetStatus []).trans (congrArg _ (cmdGetStatus_eq s))
  · rw [statusPart1, flags_four, gateCode_byte, tempBytes_eq, tempBytes_eq, tempBytes_eq]
    rfl
  · rw [statusPart2, flags_three, flags_three, deadlineSeconds_eq, suspensionSeconds_eq, eligible_count, keysDown_eq]
    rfl
  · rw [writeRecord, tempBytes_eq]
    rfl
  · rw [writeRecord]
    cases r.board <;> rfl
  · refine (whenOn_commandArrives h fun _ => cmdGetHistory [start, count]).trans (congrArg _ ?_)
    have length : [start, count].length = 2 := rfl
    have index : 7 < u8At [start, count] 0 := large
    rw [cmdGetHistory, if_neg (not_not_intro length), if_pos index]
    exact refuse_taken 0x44 .badIndex s
  · refine (whenOn_commandArrives h fun _ => cmdGetHistory [start, count]).trans (congrArg _ ?_)
    rw [cmdGetHistory_eq small, none_]
    rfl
  · intro l
    refine (whenOn_commandArrives h fun _ => cmdGetHistory [start, count]).trans (congrArg _ ?_)
    have some_ : ¬ min 2 count.toNat = 0 := by
      have nonzero : count.toNat ≠ 0 := fun zero => counted (BitVec.eq_of_toNat_eq zero)
      omega
    rw [cmdGetHistory_eq small, if_neg some_]
    rfl
  · exact (whenOn_commandArrives h fun _ => cmdGetLinkCounters []).trans (congrArg _ (reply_taken 0x46 .ok _ s))
  · refine (whenOn_commandArrives h fun _ => cmdClearCounters []).trans (congrArg _ ?_)
    have cleared : cmdClearCounters [] (taken s) = reply 0x47 .ok [] { taken s with
        link.c.counters := Counters.zero, link.b.counters := Counters.zero, pass := s.pass.map fun _ => EntryCounts.zero } := rfl
    rw [cleared, reply_eq]
    rfl

end Sys2Proof.Machine
end

section
/-! Heartbeat offers: the judgement, the acceptance with the entry to RUN, and PULSE. -/

namespace Sys2Proof.Machine

/-! ## The judgement and the memory of the source (R110, R111) -/

theorem releasedPhase_iff (p : Phase) : releasedPhase p = true ↔ p ∈ [Phase.boot, .run] := by cases p <;> decide

/-- The state with the token offered remembered, where one was. -/
def remembered (src : HeartbeatSource) (token : Option Byte) (s : State) : State := if token = none then s else setToken src token s

/-- The first case that makes an offer fresh. -/
def OfferFresh (src : HeartbeatSource) (token : Option Byte) (s : State) : Prop :=
  s.sup.firstHeartbeat = true ∨ s.cfg.watchdog.tokenCheck = false ∨ (token ≠ none ∧ token ≠ tokenOf src s)

theorem isFresh_iff (src : HeartbeatSource) (token : Option Byte) (s : State) : isFresh src token s = true ↔ OfferFresh src token s := by
  rw [isFresh, OfferFresh, Bool.or_eq_true, Bool.or_eq_true, Bool.and_eq_true, Bool.not_eq_true', bne_iff_ne, Option.isSome_iff_ne_none, or_assoc]

/-- An offer while PC_RST# is released: the judgement on the state before, the count or the acceptance after the memory. -/
theorem offerHeartbeat_eq (src : HeartbeatSource) (token : Option Byte) {s : State} (released : s.ctl.phase ∈ [Phase.boot, .run]) :
    offerHeartbeat src token s =
      if isFresh src token s then (acceptHeartbeat (remembered src token s), some true)
      else ({ remembered src token s with sup.staleCount := inc8 (remembered src token s).sup.staleCount }, some false) := by
  have seen : (if token.isSome then setToken src token s else s) = remembered src token s := by cases token <;> rfl
  simp only [offerHeartbeat, seen, if_pos ((releasedPhase_iff _).mpr released)]

theorem offerHeartbeat_elsewhere (src : HeartbeatSource) (token : Option Byte) {s : State} (held : s.ctl.phase ∉ [Phase.boot, .run]) :
    offerHeartbeat src token s = (s, none) := by
  rw [offerHeartbeat, if_neg fun released => held ((releasedPhase_iff _).mp released)]

theorem offerHeartbeat_stale {src : HeartbeatSource} {token : Option Byte} {s : State} (released : s.ctl.phase ∈ [Phase.boot, .run])
    (stale : ¬ OfferFresh src token s) :
    offerHeartbeat src token s =
      ({ remembered src token s with sup.staleCount := min 255 ((remembered src token s).sup.staleCount + 1) }, some false) := by
  rw [offerHeartbeat_eq src token released, if_neg fun fresh => stale ((isFresh_iff src token s).mp fresh)]
  rfl

theorem offerHeartbeat_fresh {src : HeartbeatSource} {token : Option Byte} {s : State} (released : s.ctl.phase ∈ [Phase.boot, .run])
    (fresh : OfferFresh src token s) : offerHeartbeat src token s = (acceptHeartbeat (remembered src token s), some true) := by
  rw [offerHeartbeat_eq src token released, if_pos ((isFresh_iff src token s).mpr fresh)]

/-- What a property says of the memory of the source it says of every state that differs from `s` in the tokens alone. -/
theorem remembered_cases {P : State → Prop} {s : State} (src : HeartbeatSource) (token : Option Byte)
    (all : ∀ (pulse : Option Byte) (entries : List (Option Byte)), P { s with sup.pulseToken := pulse, sup.entryTokens := entries }) :
    P (remembered src token s) := by
  cases token with
  | none => exact all s.sup.pulseToken s.sup.entryTokens
  | some t =>
    cases src with
    | pulse => exact all (some t) s.sup.entryTokens
    | entry i => exact all s.sup.pulseToken (s.sup.entryTokens.set i (some t))

/-! ## The acceptance (R111, R12) -/

/-- The deadline as an acceptance from the boot window leaves it, ahead of the entry to RUN. -/
def bootWindowLeft (s : State) : State :=
  { s with sup := { s.sup with
      staleCount := 0, firstHeartbeat := false, deadline := .heartbeat, expiry := s.clock.now + s.cfg.watchdog.tHb * 1000000 } }

theorem acceptHeartbeat_heartbeat {s : State} (running : s.sup.deadline = .heartbeat) :
    acceptHeartbeat s = { s with sup.staleCount := 0, sup.expiry := s.clock.now + s.cfg.watchdog.tHb * 1000000 } := by
  simp only [acceptHeartbeat, running, sec]

theorem acceptHeartbeat_still {s : State} (still : s.sup.deadline ∈ [DeadlineState.suspended, .stopped]) :
    acceptHeartbeat s = { s with sup.staleCount := 0 } := by
  rcases List.mem_pair.mp still with h | h <;> simp only [acceptHeartbeat, h]

theorem acceptHeartbeat_bootWindow {s : State} (window : s.sup.deadline = .bootWindow) : acceptHeartbeat s = enterRun (bootWindowLeft s) := by
  simp only [acceptHeartbeat, window, sec, bootWindowLeft]

/-- RUN as the first heartbeat of a boot enters it. -/
def runEntered (s : State) : State :=
  { s with
    clock.timeInPhase := 0, clock.phaseAt := s.clock.now, lines.moves := []
    ctl := { s.ctl with
      phase := .run, warmUp := .stopped, stability := none, wait := none, resetPulse := none, offTime := none
      supplyLoss := if s.pins.pwrgood then none else some s.clock.now
      ledFrom := if s.ctl.overlay.isSome then s.ctl.ledFrom else s.clock.now }
    sup := { s.sup with
      staleCount := 0, firstHeartbeat := false, deadline := .heartbeat, expiry := s.clock.now + s.cfg.watchdog.tHb * 1000000
      addedSinceRun := false }
    keys.queue := if heldCodes s = [] then s.keys.queue else s.keys.queue ++ [snapshotEvent false s]
    note.pending := if s.sup.addedSinceRun then s.note.pending ||| 32#13 else s.note.pending }

theorem enterRun_bootWindowLeft {s : State} (boot : s.ctl.phase = .boot) : enterRun (bootWindowLeft s) = runEntered s := by
  have begun : ¬ (bootWindowLeft s).ctl.phase = .run := by
    intro run
    exact absurd (boot.symm.trans run) (by decide)
  have codes : downCodes (bootWindowLeft s) = heldCodes s := downCodes_eq s
  have shot : snapshotEvent false (bootWindowLeft s) = snapshotEvent false s := snapshotEvent_of_keys rfl rfl rfl rfl false
  have queue : s.keys.queue ++ (if (heldCodes s).isEmpty then [] else [snapshotEvent false s]) =
      if heldCodes s = [] then s.keys.queue else s.keys.queue ++ [snapshotEvent false s] := by
    cases heldCodes s with
    | nil => exact List.append_nil _
    | cons => rfl
  rw [enterRun_eq, beginPhase_eq]
  simp only [if_neg begun, codes, shot]
  exact congrArg (fun q => ({ runEntered s with keys.queue := q } : State)) queue

theorem acceptHeartbeat_boot {s : State} (boot : s.ctl.phase = .boot) (window : s.sup.deadline = .bootWindow) :
    acceptHeartbeat s = runEntered s :=
  (acceptHeartbeat_bootWindow window).trans (enterRun_bootWindowLeft boot)

/-- What an acceptance from the boot window leaves, from whichever phase. -/
def WindowAccepted (s t : State) : Prop :=
  t.ctl.phase = .run ∧ t.sup.deadline = .heartbeat ∧ t.sup.firstHeartbeat = false
  ∧ t.sup.expiry = s.clock.now + s.cfg.watchdog.tHb * 1000000
  ∧ t.clock.timeInPhase = 0 ∧ t.lines = { s.lines with moves := [] }
  ∧ t.sup.addedSinceRun = false
  ∧ t.note.pending = (if s.sup.addedSinceRun then s.note.pending ||| 32#13 else s.note.pending)

theorem acceptHeartbeat_windowAccepted {s : State} (window : s.sup.deadline = .bootWindow) : WindowAccepted s (acceptHeartbeat s) := by
  rw [acceptHeartbeat_bootWindow window, enterRun_eq, beginPhase_eq]
  exact ⟨rfl, rfl, rfl, rfl, rfl, rfl, rfl, rfl⟩

theorem acceptHeartbeat_window_kept {s : State} (window : s.sup.deadline = .bootWindow) :
    (acceptHeartbeat s).link = s.link ∧ (acceptHeartbeat s).clock.now = s.clock.now
      ∧ (acceptHeartbeat s).sup.pulseToken = s.sup.pulseToken := by
  rw [acceptHeartbeat_bootWindow window, enterRun_eq, beginPhase_eq]
  exact ⟨rfl, rfl, rfl⟩

theorem acceptHeartbeat_staleCount (s : State) : (acceptHeartbeat s).sup.staleCount = 0 := by
  cases deadline : s.sup.deadline with
  | stopped => rw [acceptHeartbeat_still (by rw [deadline]; decide)]
  | suspended => rw [acceptHeartbeat_still (by rw [deadline]; decide)]
  | heartbeat => rw [acceptHeartbeat_heartbeat deadline]
  | bootWindow =>
    rw [acceptHeartbeat_bootWindow deadline, enterRun_eq, beginPhase_eq]
    rfl

/-! ## PULSE (R112) -/

theorem enterRun_taken (s : State) : enterRun (taken s) = taken (enterRun s) := by
  rw [enterRun_eq, enterRun_eq, beginPhase_eq, beginPhase_eq]
  rfl

theorem acceptHeartbeat_taken (s : State) : acceptHeartbeat (taken s) = taken (acceptHeartbeat s) := by
  cases deadline : s.sup.deadline with
  | stopped => simp only [acceptHeartbeat_still (s := s) (by rw [deadline]; decide), acceptHeartbeat_still (s := taken s) (by rw [taken, deadline]; decide)]; rfl
  | suspended => simp only [acceptHeartbeat_still (s := s) (by rw [deadline]; decide), acceptHeartbeat_still (s := taken s) (by rw [taken, deadline]; decide)]; rfl
  | heartbeat => rw [acceptHeartbeat_heartbeat deadline, acceptHeartbeat_heartbeat (s := taken s) deadline]; rfl
  | bootWindow =>
    rw [acceptHeartbeat_bootWindow deadline, acceptHeartbeat_bootWindow (s := taken s) deadline]
    exact enterRun_taken (bootWindowLeft s)

theorem remembered_taken (token : Option Byte) (s : State) : remembered .pulse token (taken s) = taken (remembered .pulse token s) := by
  cases token <;> rfl

/-- The deadline as PULSE reports it. -/
def deadlineReport (s : State) : List Byte := byte s.sup.deadline.code :: be16 (deadlineSeconds s)

/-- An offer of PULSE answered: the judgement, the stale count and the deadline, of the state the offer leaves. -/
def pulseAnswered (stale : Byte) (s : State) : State := settle (replied 0x45 ([0x00, stale, byte s.sup.staleCount] ++ deadlineReport s) s)

theorem reply_pulse (stale : Byte) (s : State) :
    settle (reply 0x45 .ok ([stale, byte s.sup.staleCount, byte s.sup.deadline.code] ++ be16 (deadlineSeconds s)) (taken s)) = pulseAnswered stale s :=
  congrArg settle (reply_taken 0x45 .ok _ s)

theorem cmdPulse_offered {p : List Byte} {s u : State} {fresh : Bool} (short : p.length ≤ 1)
    (offer : offerHeartbeat .pulse p.head? (taken s) = (taken u, some fresh)) :
    cmdPulse p (taken s) = pulseAnswered (if fresh then 0x00 else 0x01) u := by
  rw [cmdPulse, if_neg (Nat.not_lt.mpr short), offer]
  cases fresh with
  | false => exact reply_pulse 0x01 u
  | true => exact reply_pulse 0x00 u

theorem cmdPulse_stale {p : List Byte} {s : State} (short : p.length ≤ 1) (released : s.ctl.phase ∈ [Phase.boot, .run])
    (stale : ¬ OfferFresh .pulse p.head? s) :
    cmdPulse p (taken s) =
      pulseAnswered 0x01 { remembered .pulse p.head? s with
        sup.staleCount := min 255 ((remembered .pulse p.head? s).sup.staleCount + 1) } := by
  refine cmdPulse_offered (fresh := false) short ?_
  rw [offerHeartbeat_stale (s := taken s) released stale, remembered_taken]
  rfl

theorem cmdPulse_fresh {p : List Byte} {s : State} (short : p.length ≤ 1) (released : s.ctl.phase ∈ [Phase.boot, .run])
    (fresh : OfferFresh .pulse p.head? s) :
    cmdPulse p (taken s) = pulseAnswered 0x00 (acceptHeartbeat (remembered .pulse p.head? s)) := by
  refine cmdPulse_offered (fresh := true) short ?_
  rw [offerHeartbeat_fresh (s := taken s) released fresh, remembered_taken, acceptHeartbeat_taken]

theorem pulseAnswered_delivered {d : List Byte} (stale : Byte) {s : State} (report : deadlineReport s = d) :
    AnsweredThenDelivered 0x45 ([0x00, stale, byte s.sup.staleCount] ++ d) s (pulseAnswered stale s) := by
  have up := settle_up (replied 0x45 ([0x00, stale, byte s.sup.staleCount] ++ deadlineReport s) s)
  rw [← report]
  exact ⟨settle_deliveries _, up⟩

theorem deadlineReport_eq (s : State) :
    deadlineReport s =
      if s.sup.deadline = .stopped then [0x00, 0x00, 0x00]
      else if s.sup.deadline = .suspended then [0x03, 0x00, 0x00]
      else (if s.sup.deadline = .bootWindow then 0x01 else 0x02) :: be16 ((s.sup.expiry - s.clock.now + 999999) / 1000000) := by
  rw [deadlineReport, deadlineSeconds_eq]
  generalize (s.sup.expiry - s.clock.now + 999999) / 1000000 = n
  cases s.sup.deadline with
  | stopped => rw [if_neg (by decide), if_pos rfl]; rfl
  | suspended => rw [if_neg (by decide), if_neg (by decide), if_pos rfl]; rfl
  | bootWindow => rw [if_pos (by decide), if_neg (by decide), if_neg (by decide), if_pos rfl]; rfl
  | heartbeat => rw [if_pos (by decide), if_neg (by decide), if_neg (by decide), if_neg (by decide)]; rfl

/-- A heartbeat deadline begun just now has all its seconds left. -/
theorem deadlineReport_begun {s : State} {n : Nat} (running : s.sup.deadline = .heartbeat) (expiry : s.sup.expiry = s.clock.now + n * 1000000) :
    deadlineReport s = 0x02 :: be16 n := by
  have left : (s.sup.expiry - s.clock.now + 999999) / 1000000 = n := by omega
  rw [deadlineReport_eq, left, running]
  rfl

/-- A heartbeat deadline begun by an offer of PULSE, answered. -/
theorem pulseAnswered_begun {s : State} {e n : Nat} (running : s.sup.deadline = .heartbeat) (begun : e = s.clock.now + n * 1000000) :
    AnsweredThenDelivered 0x45 ([0x00, 0x00, 0x00, 0x02] ++ be16 n) { s with sup.staleCount := 0, sup.expiry := e }
      (pulseAnswered 0x00 { s with sup.staleCount := 0, sup.expiry := e }) :=
  pulseAnswered_delivered (s := { s with sup.staleCount := 0, sup.expiry := e }) 0x00 (deadlineReport_begun running begun)

/-- Settles O12: an offer by its judgement and the deadline, and PULSE as the reply to its offer. -/
theorem heartbeats : Obligations.Heartbeats := by
  unfold Obligations.Heartbeats
  intro snapshot entersRun
  have entered : ∀ s, runEntered s = entersRun s := by
    intro s
    rw [runEntered, snapshotEvent, downCodes_eq]
  refine ⟨fun src token s => ?_, fun p s h released short => ?_⟩
  · intro r fresh seen
    refine ⟨offerHeartbeat_elsewhere src token, fun released stale => ?_, fun released accepted => ?_⟩
    · refine (offerHeartbeat_stale released stale).trans ?_
      exact remembered_cases (P := fun u => (({ u with sup.staleCount := min 255 (u.sup.staleCount + 1) } : State), some false) =
        ({ u with sup.staleCount := min 255 (s.sup.staleCount + 1) }, some false)) src token fun _ _ => rfl
    · have offer : r = (acceptHeartbeat seen, some true) := offerHeartbeat_fresh released accepted
      rw [offer]
      refine ⟨rfl, acceptHeartbeat_staleCount seen, fun running => ?_, fun suspended => ?_, fun window => ?_⟩
      · exact remembered_cases (P := fun u => acceptHeartbeat u =
          { u with sup.staleCount := 0, sup.expiry := s.clock.now + s.cfg.watchdog.tHb * 1000000 }) src token fun _ _ => acceptHeartbeat_heartbeat running
      · exact remembered_cases (P := fun u => acceptHeartbeat u = { u with sup.staleCount := 0 }) src token fun pulse entries =>
          acceptHeartbeat_still (s := { s with sup.pulseToken := pulse, sup.entryTokens := entries }) (List.mem_pair.mpr (.inl suspended))
      · have left : WindowAccepted s (acceptHeartbeat seen) :=
          remembered_cases (P := fun u => WindowAccepted s (acceptHeartbeat u)) src token fun pulse entries =>
            acceptHeartbeat_windowAccepted (s := { s with sup.pulseToken := pulse, sup.entryTokens := entries }) window
        obtain ⟨phase, deadline, first, expiry, time, lines, added, pending⟩ := left
        refine ⟨phase, deadline, first, expiry, time, lines, added, pending, fun boot => ?_⟩
        rw [← entered]
        exact remembered_cases (P := fun u => acceptHeartbeat u = runEntered u) src token fun pulse entries =>
          acceptHeartbeat_boot (s := { s with sup.pulseToken := pulse, sup.entryTokens := entries }) boot window
  · intro token fresh memory deadline
    have seen : remembered .pulse token s = { s with sup.pulseToken := memory } := by
      cases given : token with
      | none => simp only [memory, given]; rfl
      | some t => simp only [memory, given]; rfl
    refine ⟨cmdPulse p (taken s), whenOn_commandArrives h fun _ => cmdPulse p, fun stale => ?_, fun accepted running => ?_, fun accepted still => ?_,
      fun accepted window => ?_⟩
    · rw [cmdPulse_stale short released stale, seen]
      exact pulseAnswered_delivered (s := { s with sup := { s.sup with
        pulseToken := memory, staleCount := min 255 (s.sup.staleCount + 1) } }) 0x01 (deadlineReport_eq _)
    · rw [cmdPulse_fresh short released accepted, seen, acceptHeartbeat_heartbeat (s := { s with sup.pulseToken := memory }) running]
      exact pulseAnswered_begun (s := { s with sup.pulseToken := memory }) running rfl
    · rw [cmdPulse_fresh short released accepted, seen, acceptHeartbeat_still (s := { s with sup.pulseToken := memory }) still]
      exact pulseAnswered_delivered (s := { s with sup := { s.sup with pulseToken := memory, staleCount := 0 } }) 0x00 (deadlineReport_eq _)
    · rw [cmdPulse_fresh short released accepted, seen]
      have left : WindowAccepted s _ := acceptHeartbeat_windowAccepted (s := { s with sup.pulseToken := memory }) window
      obtain ⟨link, now, pulse⟩ := acceptHeartbeat_window_kept (s := { s with sup.pulseToken := memory }) window
      have whole : s.ctl.phase = .boot → _ := fun boot => acceptHeartbeat_boot (s := { s with sup.pulseToken := memory }) boot window
      have count := acceptHeartbeat_staleCount { s with sup.pulseToken := memory }
      generalize acceptHeartbeat { s with sup.pulseToken := memory } = u at left link now pulse whole count
      obtain ⟨phase, running, -, expiry, -⟩ := left
      have report : deadlineReport u = 0x02 :: be16 s.cfg.watchdog.tHb := deadlineReport_begun running (by rw [now]; exact expiry)
      obtain ⟨delivered, up⟩ := pulseAnswered_delivered 0x00 report
      rw [count] at delivered up
      generalize pulseAnswered 0x00 u = t at delivered up
      refine ⟨?_, ?_, ?_, ?_, ?_, fun boot => ?_⟩
      · exact (congrArg (fun t => t.ctl.phase) delivered).trans phase
      · exact (congrArg (fun t => t.sup.deadline) delivered).trans running
      · exact (congrArg (fun t => t.sup.pulseToken) delivered).trans pulse
      · exact (congrArg (fun t => t.sup.staleCount) delivered).trans count
      · rw [link] at up
        exact up
      · rw [whole boot, entered] at delivered up
        exact ⟨delivered, up⟩

end Sys2Proof.Machine
end

section
/-! Chord firings by their action, the firings that wait, the overlay, and what LED shows. -/

namespace Sys2Proof.Machine

/-! ## The firings by their action (R10, R23, R118) -/

theorem overlay_restored {s t : State} (entry : t = s.enteredAs t) (o : Overlay) :
    { showOverlay o t with ctl.overlay := s.ctl.overlay, ctl.overlayFrom := s.ctl.overlayFrom } = t := by
  have overlay : t.ctl.overlay = s.ctl.overlay := congrArg (fun t => t.ctl.overlay) entry
  have shownFrom : t.ctl.overlayFrom = s.ctl.overlayFrom := congrArg (fun t => t.ctl.overlayFrom) entry
  rw [← overlay, ← shownFrom]
  rfl

theorem PreheatEntered.enteredAs {s t : State} (entered : PreheatEntered s t) : t = s.enteredAs t := by
  unfold PreheatEntered at entered
  split at entered
  · exact entered.2.1
  · exact entered.1.2.1

/-- PREHEAT is warm enough for SKIP_WARMUP (R10). -/
def WarmEnough (s : State) : Prop := s.ctl.phase = .preheat ∧ s.sens.effBoard.any (fun b => s.cfg.sensing.tAbsMin ≤ b) = true

theorem handOn_skipWarmup_warm {s : State} (warm : WarmEnough s) : handOn .skipWarmup s = showOverlay .accepted (enterPowerOn s) := by
  obtain ⟨preheat, above⟩ := warm
  cases board : s.sens.effBoard with
  | none => exact absurd (board ▸ above) (by simp)
  | some b =>
    have reached : s.cfg.sensing.tAbsMin ≤ b := by simpa [board] using above
    simp only [handOn, if_pos preheat, board, if_pos reached]

theorem handOn_skipWarmup_refused {s : State} (cold : ¬ WarmEnough s) : handOn .skipWarmup s = showOverlay .refused s := by
  by_cases preheat : s.ctl.phase = .preheat
  · cases board : s.sens.effBoard with
    | none => simp only [handOn, if_pos preheat, board]
    | some b =>
      have below : ¬ s.cfg.sensing.tAbsMin ≤ b := fun reached => cold ⟨preheat, by simpa [board] using reached⟩
      simp only [handOn, if_pos preheat, board, if_neg below]
  · simp only [handOn, if_neg preheat]

theorem handOn_clearLockout_lockout {s : State} (lockout : s.ctl.phase = .lockout) :
    handOn .clearLockout s = showOverlay .accepted (enterPreheat { s with sup.floor := s.clock.uptime }) := by
  simp only [handOn, lockout]

theorem handOn_clearLockout_elsewhere {s : State} (other : s.ctl.phase ≠ .lockout) :
    handOn .clearLockout s =
      { s with
        sup.floor := s.clock.uptime
        ctl := { s.ctl with
          overlay := some .accepted, overlayFrom := s.clock.now
          originLockout := if s.ctl.phase = .cooldown then false else s.ctl.originLockout } } := by
  simp only [handOn]
  split
  next lockout => exact absurd lockout other
  next cool =>
    rw [if_pos cool]
    rfl
  all_goals
    rename_i phase
    rw [if_neg (by rw [phase]; exact fun h => Phase.noConfusion h)]
    rfl

theorem takesRequest_chordRestart (p : Phase) : takesRequest .chordRestart p = true ↔ p ∈ [Phase.powerOn, .boot, .run] := by cases p <;> decide

theorem handOn_requestRestart_taken {s : State} (takes : s.ctl.phase ∈ [Phase.powerOn, .boot, .run]) :
    handOn .requestRestart s = { request .chordRestart s with ctl.overlay := some .accepted, ctl.overlayFrom := s.clock.now } := by
  have now : (request .chordRestart s).clock.now = s.clock.now := request_sameNow ..
  rw [handOn, if_pos ((takesRequest_chordRestart _).mpr takes), showOverlay, now]

theorem handOn_requestRestart_refused {s : State} (not : s.ctl.phase ∉ [Phase.powerOn, .boot, .run]) :
    handOn .requestRestart s = showOverlay .refused s := by
  rw [handOn, if_neg fun takes => not ((takesRequest_chordRestart _).mp takes)]

/-! ## Firings that wait (R136) -/

theorem takeFirings_one {s : State} {a : ChordAction} (waits : s.ctl.firings = [a]) : takeFirings 1 s = handOn a { s with ctl.firings := [] } :=
  takeFirings_cons waits 0

/-- SOAK_COMPLETE in PREHEAT enters POWER_ON, and the firings that wait go on waiting (R8, R136). -/
theorem exec_soakComplete_preheat {s : State} (phase : InPhase .preheat s) (satisfied : s.sens.gate.satisfied = true)
    (incomplete : s.sens.gate.complete = false) (reached : s.cfg.sensing.tSoak * 1000 ≤ s.sens.gate.soakMs + 250) :
    ∃ u, exec .soakComplete s = .next u ∧ u.ctl.phase = .powerOn ∧ u.ctl.firings = s.ctl.firings := by
  have entered := completeSoak_entered
    { s with sens.gate := { s.sens.gate with soakMs := s.sens.gate.soakMs + 250, span := s.cfg.sensing.tSoak } } phase.2
  obtain ⟨⟨powerOn, -⟩, frame, -⟩ := entered
  unfold exec execSoakComplete
  refine ⟨_, whenOn_ite_pos phase.1 ⟨satisfied, incomplete, reached⟩, ?_⟩
  rw [settle_of_not_run (by rw [powerOn]; exact fun h => Phase.noConfusion h)]
  exact ⟨powerOn, congrArg (fun t => t.ctl.firings) frame⟩

theorem overheat_of_lockout {s : State} (lockout : s.ctl.phase = .lockout) :
    (overheat s).ctl.phase = .cooldown ∧ (overheat s).ctl.originLockout = true ∧ (overheat s).ctl.firings = s.ctl.firings := by
  have listed : s.ctl.phase ∈ [Phase.preheat, .powerOn, .boot, .run, .restart, .powerCycle, .lockout] := by
    rw [lockout]
    decide
  rw [overheat_eq, carryOut_cooldown_eq, if_pos (by exact listed)]
  generalize recorded : addRecord (recordOf .overheat .cooldown { s with sens.dwellMs := 0 }) { s with sens.dwellMs := 0 } = v
  have ctl : v.ctl = s.ctl := by rw [← recorded]; rfl
  refine ⟨enterCooldown_phase v, ?_, ?_⟩
  · rw [enterCooldown_origin, ctl, lockout]
    rfl
  · rw [← ctl]
    exact congrArg (fun t => t.ctl.firings) (enterCooldown_off v).2.1

theorem exec_overheatDwellExpiry_lockout {s : State} (phase : InPhase .lockout s) (reached : s.sens.dwellMs = 9750) :
    exec .overheatDwellExpiry s = .next (overheat s) := by
  have other : s.ctl.phase ≠ .cooldown := by rw [phase.2]; exact fun h => Phase.noConfusion h
  unfold exec execOverheatDwellExpiry
  rw [whenOn_ite_pos phase.1 ⟨other, by omega⟩, settle_of_not_run (by rw [overheat_phase other]; exact fun h => Phase.noConfusion h)]

/-! ## LED (R24, R25) -/

theorem exec_overlayEnd_due {s : State} (hp : s.powered = true) (shows : s.ctl.overlay.isSome = true) (ended : s.ctl.overlayFrom + 1000000 ≤ s.clock.now) :
    exec .overlayEnd s = .next { s with ctl.overlay := none, ctl.ledFrom := s.clock.now } := by
  have due : overlayDue s = true := (overlayDue_iff s).mpr ⟨Option.isSome_iff_ne_none.mp shows, ended⟩
  unfold exec execOverlayEnd
  exact whenOn_ite_pos hp due

theorem ledLit_base {s : State} (hp : s.powered = true) (bare : s.ctl.overlay = none) :
    ledLit s = basePattern s.ctl.phase (s.clock.now - s.ctl.ledFrom) := by
  simp only [ledLit, hp, bare, Bool.true_and]

theorem ledLit_refused {s : State} (hp : s.powered = true) (refused : s.ctl.overlay = some .refused) :
    ledLit s = decide ((s.clock.now - s.ctl.overlayFrom) % 125000 < 62500) := by
  simp only [ledLit, hp, refused, Bool.true_and]

theorem exec_overlayEnd_bare {s : State} (bare : s.ctl.overlay = none) : exec .overlayEnd s = .next s := by
  unfold exec execOverlayEnd
  exact whenOn_ite_neg fun due => ((overlayDue_iff s).mp due).1 bare

/-- The base pattern of every phase begins lit. -/
theorem basePattern_begun (p : Phase) : basePattern p 0 = true := by cases p <;> rfl

/-- The first `n` flashes of a base pattern of 2 s, 100 ms in every 200 ms. -/
def flashes (n t : Nat) : Bool := (List.range n).any fun k => decide (k * 200000 ≤ t % 2000000 ∧ t % 2000000 < k * 200000 + 100000)

theorem flashes_succ (n t : Nat) :
    flashes (n + 1) t = (flashes n t || (decide (n * 200000 ≤ t % 2000000) && decide (t % 2000000 < n * 200000 + 100000))) := by
  simp only [flashes, List.range_succ, List.any_append, List.any_cons, List.any_nil, Bool.or_false, Bool.decide_and]

theorem flashes_one (t : Nat) : flashes 1 t = decide (t % 2000000 < 100000) := by
  refine (flashes_succ 0 t).trans ?_
  simp only [flashes, List.range_zero, List.any_nil, Nat.zero_mul, Nat.zero_le, decide_true, Bool.true_and, Bool.false_or, Nat.zero_add]

theorem basePattern_twice {p : Phase} (h : p ∈ [Phase.restart, .powerCycle]) (t : Nat) : basePattern p t = flashes 2 t := by
  rw [flashes_succ 1, flashes_one]
  rcases List.mem_pair.mp h with rfl | rfl <;> rfl

theorem basePattern_thrice {p : Phase} (h : p ∈ [Phase.cooldown, .lockout]) (t : Nat) : basePattern p t = flashes 3 t := by
  rw [flashes_succ 2, flashes_succ 1, flashes_one]
  rcases List.mem_pair.mp h with rfl | rfl <;> rfl

/-- Settles O9: each firing by its action, the overlay's end, the firings that wait, and LED by overlay and phase. -/
theorem chordActionsAndOverlay : Obligations.ChordActionsAndOverlay := by
  refine ⟨fun s => ⟨⟨fun warm => ?_, handOn_skipWarmup_refused⟩, ?_, rfl, handOn_requestRestart_taken, handOn_requestRestart_refused⟩,
    fun s hp => ⟨fun shows ended => ?_, fun bare => ?_⟩, ⟨fun s => ⟨rfl, fun none n => takeFirings_nil none n, fun n a rest h => takeFirings_cons h n⟩, ?_, ?_⟩,
    fun s hp => ?_⟩
  · have shown := handOn_skipWarmup_warm warm
    have now : (enterPowerOn s).clock.now = s.clock.now := enteredAs_now (enterPowerOn_enteredAs s)
    rw [shown, overlay_restored (enterPowerOn_enteredAs s)]
    exact ⟨enterPowerOn_entered s, rfl, now⟩
  · by_cases lockout : s.ctl.phase = .lockout
    · have entered := enterPreheat_entered { s with sup.floor := s.clock.uptime }
      have entry := entered.enteredAs
      intro t
      have shown : t = _ := handOn_clearLockout_lockout lockout
      refine ⟨?_, ?_, ?_, fun _ => ?_, fun other => absurd lockout other⟩
      · rw [shown]
        exact congrArg (fun t => t.sup.floor) entry
      · rw [shown]
        rfl
      · rw [shown]
        have now := enteredAs_now entry
        exact now
      · rw [shown]
        have restored := overlay_restored entry .accepted
        exact Eq.mpr (congrArg (PreheatEntered { s with sup.floor := s.clock.uptime }) restored) entered
    · intro t
      have shown : t = _ := handOn_clearLockout_elsewhere lockout
      rw [shown]
      exact ⟨rfl, rfl, rfl, fun h => absurd h lockout, fun _ => rfl⟩
  · refine ⟨_, exec_overlayEnd_due hp shows ended, rfl, ?_⟩
    rw [ledLit_base (s := { s with ctl.overlay := none, ctl.ledFrom := s.clock.now }) hp rfl]
    exact (congrArg _ (Nat.sub_self _)).trans (basePattern_begun _)
  · exact exec_overlayEnd_bare bare
  · intro s phase waits satisfied incomplete reached
    obtain ⟨u, row, powerOn, firings⟩ := exec_soakComplete_preheat phase satisfied incomplete reached
    refine ⟨u, row, powerOn, ?_⟩
    rw [takeFirings_one (firings.trans waits)]
    exact handOn_skipWarmup_refused fun warm => absurd (powerOn.symm.trans warm.1) (by decide)
  · intro s phase waits reached
    obtain ⟨cool, origin, firings⟩ := overheat_of_lockout phase.2
    refine ⟨overheat s, exec_overheatDwellExpiry_lockout phase reached, cool, origin, ?_⟩
    have other : (overheat s).ctl.phase ≠ .lockout := by rw [cool]; exact fun h => Phase.noConfusion h
    rw [takeFirings_one (firings.trans waits), handOn_clearLockout_elsewhere (s := { overheat s with ctl.firings := [] }) other]
    simp only [cool, if_true]
  · intro shown t flash
    refine ⟨fun accepted => ?_, fun refused k _ => ⟨fun above below => ?_, fun above below => ?_⟩, fun bare => ?_⟩
    · simp only [ledLit, accepted, Bool.and_false]
    · rw [ledLit_refused hp refused]
      exact decide_eq_true (by omega)
    · rw [ledLit_refused hp refused]
      exact decide_eq_false (by omega)
    · rw [ledLit_base hp bare]
      refine ⟨fun h => by rw [h]; rfl, fun h => ?_, fun h => by rw [h]; rfl, fun h => basePattern_twice h t, fun h => basePattern_thrice h t⟩
      rcases List.mem_pair.mp h with h | h <;> rw [h] <;> rfl

end Sys2Proof.Machine
end

section
/-! The idle step: the rows of the part's own with their instants, block by block, and the step that overtakes none of them. -/

namespace Sys2Proof.Machine

/-! ## The blocks of alarms -/

/-- The instant is the end of a span begun at `start`. -/
def EndsAt (start : Option Nat) (span at_ : Nat) : Prop := ∃ t0, start = some t0 ∧ at_ = t0 + span

/-- The rows of the phase controller and of the overlay (R2, R25). -/
def PhaseAlarm (s : State) (at_ : Nat) (c : Instr) : Prop :=
  (c = .warmUpLimitExpiry ∧ s.ctl.phase = .preheat ∧ s.ctl.warmUp = .running at_)
  ∨ (c = .pwrgoodStabilityComplete ∧ s.ctl.phase = .powerOn ∧ EndsAt s.ctl.stability 100000 at_)
  ∨ (c = .pwrgoodWaitExpiry ∧ s.ctl.phase = .powerOn ∧ EndsAt s.ctl.wait 2000000 at_)
  ∨ (c = .supplyLossFilterExpiry ∧ s.ctl.phase ∈ [.boot, .run, .restart] ∧ EndsAt s.ctl.supplyLoss 50000 at_)
  ∨ (c = .resetPulseEnd ∧ s.ctl.phase = .restart ∧ EndsAt s.ctl.resetPulse 200000 at_)
  ∨ (c = .offTimeEnd ∧ s.ctl.phase = .powerCycle ∧ EndsAt s.ctl.offTime 10000000 at_)
  ∨ (c = .overlayEnd ∧ s.ctl.overlay ≠ none ∧ at_ = s.ctl.overlayFrom + 1000000)

theorem mem_phaseAlarms (s : State) (at_ : Nat) (c : Instr) : (at_, c) ∈ phaseAlarms s ↔ PhaseAlarm s at_ c := by
  have both : (at_, c) ∈ (if s.ctl.phase = .powerOn then
        dueAfter s.ctl.stability (ms 100) .pwrgoodStabilityComplete ++ dueAfter s.ctl.wait (sec 2) .pwrgoodWaitExpiry else []) ↔
      (c = .pwrgoodStabilityComplete ∧ s.ctl.phase = .powerOn ∧ EndsAt s.ctl.stability (ms 100) at_)
        ∨ (c = .pwrgoodWaitExpiry ∧ s.ctl.phase = .powerOn ∧ EndsAt s.ctl.wait (sec 2) at_) := by
    rw [List.mem_ite_nil_right, List.mem_append, mem_dueAfter, mem_dueAfter, and_or_left, and_left_comm, and_left_comm (b := c = .pwrgoodWaitExpiry)]
    exact Iff.rfl
  simp only [phaseAlarms, List.mem_append, both, mem_dueAfter_if, mem_dueIf, watchesSupply_iff, Option.isSome_iff_ne_none, or_assoc]
  refine or_congr ?_ Iff.rfl
  cases s.ctl.warmUp with
  | running expiry =>
    rw [mem_dueIf, beq_iff_eq, WarmUpTimer.running.injEq, eq_comm (a := at_)]
  | stopped => exact iff_of_false List.not_mem_nil fun h => WarmUpTimer.noConfusion h.2.2
  | expired => exact iff_of_false List.not_mem_nil fun h => WarmUpTimer.noConfusion h.2.2

/-- The sample, the scan pass and the 1 s timer (R26, R60, R125). -/
def PeriodicAlarm (s : State) (at_ : Nat) (c : Instr) : Prop :=
  (c = .sensorSample s.pins.air s.pins.display s.pins.board ∧ at_ = s.sens.sampleAt + 250000)
  ∨ (c = .scanPass s.pins.matrix ∧ at_ = s.keys.scanAt + 5000)
  ∨ (c = .budgetTimerExpiry ∧ at_ = s.bud.periodAt + 1000000)

theorem mem_periodicAlarms (s : State) (at_ : Nat) (c : Instr) : (at_, c) ∈ periodicAlarms s ↔ PeriodicAlarm s at_ c := by
  simp only [periodicAlarms, List.mem_cons, List.not_mem_nil, or_false, Prod.mk.injEq, and_comm (a := at_ = _)]
  exact Iff.rfl

/-- A condition of a channel is present. -/
def Present (x : Channel) (bit : BitVec 3) : Prop := x.conds &&& bit ≠ 0

theorem hasCondition_iff (bit : BitVec 3) (x : Channel) : hasCondition bit x = true ↔ Present x bit := bne_iff_ne

theorem mem_channelAlarms (i : ChannelId) (s : State) (at_ : Nat) (c : Instr) :
    (at_, c) ∈ channelAlarms i s ↔
      (c = .overcurrentTrip i ∧ EndsAt (channelOf i s).overFrom (filterTime i s) at_)
        ∨ (c = .tripAgeOut i ∧ (channelOf i s).state ≠ .lockedOff ∧ EndsAt (channelOf i s).trips.head? 60000000 at_) := by
  simp only [channelAlarms, List.mem_append, mem_dueAfter, mem_dueAfter_unless]
  exact Iff.rfl

/-- The rows of a heater (R43, R49, R50). -/
def HeaterAlarm (h : HeaterId) (s : State) (at_ : Nat) (c : Instr) : Prop :=
  let x := heaterOf h s
  (c = .heaterOnTimeEnd h ∧ x.ch.on = true ∧ x.ch.applied < 64 ∧ at_ = s.bud.periodAt + x.ch.applied * 15625)
  ∨ (c = .openLoadCleared h ∧ Present x.ch 2 ∧ EndsAt x.goodFrom 50000 at_)
  ∨ (c = .openLoadDetected h ∧ ¬ Present x.ch 2 ∧ EndsAt x.openFrom 50000 at_)
  ∨ (c = .shortToSupplyCleared h ∧ Present x.ch 4 ∧ EndsAt x.lowFrom 50000 at_)
  ∨ (c = .shortToSupplyDetected h ∧ ¬ Present x.ch 4 ∧ EndsAt x.shortFrom 50000 at_)

theorem mem_heaterAlarms (h : HeaterId) (s : State) (at_ : Nat) (c : Instr) : (at_, c) ∈ heaterAlarms h s ↔ HeaterAlarm h s at_ c := by
  simp only [heaterAlarms, List.mem_append, mem_dueAfter_ite, mem_dueIf, hasCondition_iff, Bool.and_eq_true, decide_eq_true_eq, and_assoc, or_assoc]
  exact Iff.rfl

/-- The rows of the fan and of HEAT_INH# (R45, R46, R55). -/
def FanAlarm (s : State) (at_ : Nat) (c : Instr) : Prop :=
  (c = .tachTimeout ∧ EndsAt s.chan.fan.lastPulse 1000000 at_)
  ∨ (c = .stallDetected ∧ ¬ Present s.chan.fan.ch 2 ∧ EndsAt s.chan.fan.stallFrom 5000000 at_)
  ∨ (c = .heatInhRelease ∧ s.chan.inhibit = true ∧ EndsAt s.chan.inhRise 100000 at_)

theorem mem_fanAlarms (s : State) (at_ : Nat) (c : Instr) : (at_, c) ∈ fanAlarms s ↔ FanAlarm s at_ c := by
  simp only [fanAlarms, List.mem_append, mem_dueAfter, mem_dueAfter_unless, mem_dueAfter_if, hasCondition_iff, or_assoc]
  exact Iff.rfl

/-- The rows of a port (R76, R78, R87). -/
def PortAlarm (p : PortId) (s : State) (at_ : Nat) (c : Instr) : Prop :=
  let x := portOf p s
  (c = .frameGapTimeout p ∧ x.assembly ≠ [] ∧ at_ = x.lastByte + 5001)
  ∨ (c = .transmitStart p ∧ x.sending = none ∧ rdyIn p s = true ∧ holdsFrame p s = true ∧ at_ = s.clock.now)
  ∨ (∃ f, c = .transmitComplete p ∧ x.sending = some f ∧ at_ = f.since + frameTime s.link.rateHigh f.frame)
  ∨ (c = .portStalled p ∧ x.stalled = false ∧ EndsAt x.stallFrom 500000 at_)

theorem canStart_iff (p : PortId) (s : State) :
    canStart p s = true ↔ (portOf p s).sending = none ∧ rdyIn p s = true ∧ holdsFrame p s = true := by
  rw [canStart, Bool.and_eq_true, Bool.and_eq_true, Option.isNone_iff_eq_none, and_assoc]

theorem mem_portAlarms (p : PortId) (s : State) (at_ : Nat) (c : Instr) : (at_, c) ∈ portAlarms p s ↔ PortAlarm p s at_ c := by
  have gap : (!(portOf p s).assembly.isEmpty) = true ↔ (portOf p s).assembly ≠ [] := by
    rw [Bool.not_eq_true', ← Bool.not_eq_true, List.isEmpty_iff]
  simp only [portAlarms, List.mem_append, mem_dueIf, mem_dueAfter_unless, gap, canStart_iff, Bool.not_eq_true, and_assoc, or_assoc]
  refine or_congr Iff.rfl (or_congr Iff.rfl (or_congr ?_ Iff.rfl))
  cases sending : (portOf p s).sending with
  | none => exact iff_of_false List.not_mem_nil fun ⟨_, _, h, _⟩ => nomatch h
  | some f =>
    rw [List.mem_singleton, Prod.mk.injEq]
    exact ⟨fun ⟨due, row⟩ => ⟨f, row, rfl, due⟩, fun ⟨g, row, same, due⟩ => ⟨Option.some.inj same ▸ due, row⟩⟩

/-- The rows of the restart supervisor (R113, R115, R116). -/
def SupervisorAlarm (s : State) (at_ : Nat) (c : Instr) : Prop :=
  (c = .deadlineExpiry ∧ s.sup.deadline ∈ [.bootWindow, .heartbeat] ∧ at_ = s.sup.expiry)
  ∨ (c = .suspensionExpiry ∧ s.sup.deadline = .suspended ∧ ∃ x, s.sup.suspension = some x ∧ at_ = x.expiry)
  ∨ (c = .armExpiry ∧ s.sup.arm = some at_)

theorem deadlineCause_isSome (d : DeadlineState) : (deadlineCause d).isSome = true ↔ d ∈ [DeadlineState.bootWindow, .heartbeat] := by
  cases d <;> decide

theorem endsAt_zero (start : Option Nat) (at_ : Nat) : (∃ t, start = some t ∧ at_ = t + 0) ↔ start = some at_ :=
  ⟨fun ⟨_, h, e⟩ => e ▸ h, fun h => ⟨at_, h, rfl⟩⟩

theorem mem_supervisorAlarms (s : State) (at_ : Nat) (c : Instr) : (at_, c) ∈ supervisorAlarms s ↔ SupervisorAlarm s at_ c := by
  have suspension : (∃ t, s.sup.suspension.map Suspension.expiry = some t ∧ at_ = t + 0) ↔ ∃ x, s.sup.suspension = some x ∧ at_ = x.expiry := by
    rw [endsAt_zero, Option.map_eq_some_iff]
    exact exists_congr fun x => and_congr_right fun _ => eq_comm
  rw [supervisorAlarms, List.mem_append, List.mem_append, mem_dueIf, mem_dueAfter_if, mem_dueAfter, deadlineCause_isSome, suspension, endsAt_zero, or_assoc]
  exact Iff.rfl

/-- The end of a store (R155). -/
def StoreAlarm (s : State) (at_ : Nat) (c : Instr) : Prop :=
  c = .programmingEnd (Config.readBackMatches s.draw) (Config.readBackMatches (s.draw + 1)) ∧ s.store.capture ≠ none
    ∧ EndsAt s.store.programming 60000 at_

theorem mem_storeAlarms (s : State) (at_ : Nat) (c : Instr) : (at_, c) ∈ storeAlarms s ↔ StoreAlarm s at_ c := by
  rw [storeAlarms, mem_dueAfter_if, Option.isSome_iff_ne_none]
  exact Iff.rfl

/-- The deliveries that are due at once (R140, R150). -/
def DeliveryAlarm (s : State) (at_ : Nat) (c : Instr) : Prop :=
  (c = .keyDelivery ∧ s.ctl.phase = .run ∧ s.keys.queue ≠ [] ∧ s.link.up.countP (fun f => decide (f.rank = .key)) < 4
    ∧ s.link.up.length ≤ 10 ∧ at_ = s.clock.now)
  ∨ (c = .noticeSend ∧ s.ctl.phase = .run ∧ s.note.pending &&& s.cfg.enables ≠ 0 ∧ s.note.outstanding = false
    ∧ s.link.up.length ≤ 10 ∧ s.link.up.all (fun f => decide (f.rank ≠ .notice)) = true ∧ at_ = s.clock.now)

theorem keyDue_iff_queue (s : State) :
    keyDue s = true ↔ s.ctl.phase = .run ∧ s.keys.queue ≠ [] ∧ s.link.up.countP (fun f => decide (f.rank = .key)) < 4 ∧ s.link.up.length ≤ 10 := by
  cases head : s.keys.queue with
  | nil =>
    refine iff_of_false ?_ fun h => h.2.1 rfl
    simp only [keyDue, head, List.isEmpty_nil, Bool.not_true, Bool.and_false, Bool.false_and]
    exact Bool.false_ne_true
  | cons e rest => simp only [keyDue_iff head, ne_eq, reduceCtorEq, not_false_eq_true, true_and]

theorem mem_deliveryAlarms (s : State) (at_ : Nat) (c : Instr) :
    (at_, c) ∈ dueIf (keyDue s) s.clock.now .keyDelivery ∨ (at_, c) ∈ dueIf (noticeDue s) s.clock.now .noticeSend ↔ DeliveryAlarm s at_ c := by
  have waits : causeNumbers s ≠ [] ↔ s.note.pending &&& s.cfg.enables ≠ 0 := (causeNumbers_eq_nil s).not
  simp only [mem_dueIf, keyDue_iff_queue, noticeDue_iff, waits, and_assoc]
  exact Iff.rfl

/-! ## All alarms -/

theorem exists_channel {P : ChannelId → Prop} : (∃ i, P i) ↔ P .h0 ∨ P .h1 ∨ P .fan :=
  ⟨fun ⟨i, h⟩ => match i with | .h0 => .inl h | .h1 => .inr (.inl h) | .fan => .inr (.inr h), fun h => h.elim (⟨_, ·⟩) (·.elim (⟨_, ·⟩) (⟨_, ·⟩))⟩

theorem exists_heater {P : HeaterId → Prop} : (∃ h, P h) ↔ P .h0 ∨ P .h1 :=
  ⟨fun ⟨i, h⟩ => match i with | .h0 => .inl h | .h1 => .inr h, fun h => h.elim (⟨_, ·⟩) (⟨_, ·⟩)⟩

theorem exists_port {P : PortId → Prop} : (∃ p, P p) ↔ P .c ∨ P .b :=
  ⟨fun ⟨i, h⟩ => match i with | .c => .inl h | .b => .inr h, fun h => h.elim (⟨_, ·⟩) (⟨_, ·⟩)⟩

theorem mem_alarms (s : State) (at_ : Nat) (c : Instr) :
    (at_, c) ∈ alarms s ↔
      PhaseAlarm s at_ c ∨ PeriodicAlarm s at_ c
      ∨ (∃ i, c = .overcurrentTrip i ∧ EndsAt (channelOf i s).overFrom (filterTime i s) at_)
      ∨ (∃ i, c = .tripAgeOut i ∧ (channelOf i s).state ≠ .lockedOff ∧ EndsAt (channelOf i s).trips.head? 60000000 at_)
      ∨ (∃ h, HeaterAlarm h s at_ c) ∨ FanAlarm s at_ c ∨ (∃ p, PortAlarm p s at_ c) ∨ SupervisorAlarm s at_ c ∨ StoreAlarm s at_ c
      ∨ DeliveryAlarm s at_ c := by
  have channels : _ ↔ (∃ i, (at_, c) ∈ channelAlarms i s) := (exists_or.symm.trans (exists_congr fun i => (mem_channelAlarms i s at_ c).symm))
  rw [← or_assoc (a := ∃ i, _ ∧ _), channels, exists_channel, exists_heater, exists_port, ← mem_phaseAlarms, ← mem_periodicAlarms, ← mem_heaterAlarms,
    ← mem_heaterAlarms, ← mem_fanAlarms, ← mem_portAlarms, ← mem_portAlarms, ← mem_supervisorAlarms, ← mem_storeAlarms, ← mem_deliveryAlarms]
  simp only [alarms, List.mem_append, or_assoc]

/-! ## What the statement names otherwise -/

theorem frameTime_eq (rateHigh : Bool) (f : Frame) :
    frameTime rateHigh f =
      ((7 + f.payload.length) * 10 * 1000000 + ((if rateHigh then 460800 else 115200) - 1)) / (if rateHigh then 460800 else 115200) := by
  rw [frameTime, lineRate]
  have positive : 1 ≤ if rateHigh then 460800 else 115200 := by cases rateHigh <;> decide
  generalize (if rateHigh then 460800 else 115200) = rate at positive
  rw [Nat.add_sub_assoc positive, Nat.mul_assoc]

/-! ## The idle step (log entries 3, 4 and 32) -/

theorem step_idle {s : State} (empty : s.pending = []) : step s = .next (idle s) := by rw [step, empty]

theorem idle_below {s : State} (below : s.powered = false) : idle s = s := by rw [idle, below, if_neg Bool.false_ne_true]

theorem idle_firings {s : State} (hp : s.powered = true) (wait : s.ctl.firings ≠ []) : idle s = settle (takeAllFirings s) := by
  rw [idle, if_pos hp, if_pos wait]

theorem idle_due {s : State} (hp : s.powered = true) (none : s.ctl.firings = []) (due : dueNow s.clock.now (alarms s) ≠ []) :
    idle s = { s with pending := arrange s.draw (dueNow s.clock.now (alarms s)), draw := s.draw + 2 } := by
  rw [idle, if_pos hp, if_neg (not_not_intro none)]
  generalize dueNow s.clock.now (alarms s) = l at due
  cases l with
  | nil => exact absurd rfl due
  | cons => rfl

theorem pending_of_queued {s t : State} {l : List Instr} (queued : t = { s with pending := l, draw := s.draw + 2 }) :
    t = { s with pending := t.pending, draw := s.draw + 2 } ∧ t.pending = l := by
  rw [queued]
  exact ⟨rfl, rfl⟩

theorem idle_elapses {s : State} (hp : s.powered = true) (none : s.ctl.firings = []) (due : dueNow s.clock.now (alarms s) = []) :
    idle s = elapse (spanToNext s.clock.now s.pace (alarms s)) s := by
  rw [idle, if_pos hp, if_neg (not_not_intro none), due]

theorem dueNow_eq_nil {now : Nat} {l : List (Nat × Instr)} (none : dueNow now l = []) {a : Nat × Instr} (member : a ∈ l) : now < a.1 := by
  rw [dueNow, List.map_eq_nil_iff, List.filter_eq_nil_iff] at none
  exact Nat.lt_of_not_le fun due => none a member (decide_eq_true due)

/-- Where nothing is due, time passes to the next alarm, and past none. -/
theorem elapse_overtakes_none {s t : State} (due : dueNow s.clock.now (alarms s) = [])
    (elapses : t = elapse (spanToNext s.clock.now s.pace (alarms s)) s) :
    t = elapse (t.clock.now - s.clock.now) s ∧ s.clock.now ≤ t.clock.now ∧ t.clock.now ≤ s.clock.now + s.pace
      ∧ (∀ a ∈ alarms s, t.clock.now ≤ a.1)
      ∧ (t.clock.now = s.clock.now + s.pace ∨ ∃ a ∈ alarms s, t.clock.now = a.1) := by
  have later {a : Nat × Instr} (member : a ∈ alarms s) : s.clock.now < a.1 := dueNow_eq_nil due member
  have now : t.clock.now = s.clock.now + spanToNext s.clock.now s.pace (alarms s) := congrArg (fun t => t.clock.now) elapses
  have span : t.clock.now - s.clock.now = spanToNext s.clock.now s.pace (alarms s) := by omega
  refine ⟨by rw [span]; exact elapses, by omega, ?_, fun a member => ?_, ?_⟩
  · have := spanToNext_le_pace s.clock.now s.pace (alarms s)
    omega
  · have := spanToNext_le (now := s.clock.now) (pace := s.pace) member
    have := later member
    omega
  · rcases spanToNext_eq s.clock.now s.pace (alarms s) with pace | ⟨a, member, next⟩
    · exact .inl (now.trans (congrArg _ pace))
    · have := later member
      exact .inr ⟨a, member, by omega⟩

/-- Settles O2: the idle step by what waits or is due, and the alarms block by block. -/
theorem idleStepOvertakesNoAlarm : Obligations.IdleStepOvertakesNoAlarm := by
  refine ⟨fun s empty => ⟨fun below => ?_, fun hp wait => ⟨_, step_idle empty, ?_⟩, fun hp none => ⟨_, step_idle empty, ?_⟩⟩, fun s at_ c => ?_⟩
  · rw [step_idle empty, idle_below below]
  · rw [idle_firings hp wait]
    exact settle_deliveries _
  · refine ⟨fun due => ?_, fun due => ?_⟩
    · obtain ⟨frame, rows⟩ := pending_of_queued (idle_due hp none due)
      exact ⟨frame, rows ▸ arrange_perm ..⟩
    · exact elapse_overtakes_none due (idle_elapses hp none due)
  · intro after cold filter present rate
    refine (mem_alarms s at_ c).trans ?_
    have filters (i : ChannelId) : filterTime i s = filter i := filterTime_eq i s
    simp only [filters, PortAlarm, frameTime_eq, PhaseAlarm, PeriodicAlarm, FanAlarm, SupervisorAlarm, DeliveryAlarm, or_assoc]
    exact Iff.rfl

end Sys2Proof.Machine
end
